-- ==== Sys2Proof/Word.lean ====
section
/-! DEFINITION. The words of the part: bytes of the stand line and of the Settings Store, and sets of notice kinds. -/

namespace Sys2Proof

/-- One byte of a frame (R177), of a label (R123) or of a place of the Settings Store (R161). -/
abbrev Byte := BitVec 8

/-- One character of the stand line as its nine data bits (R173): the ninth bit, the top one here, tells an
address character from a data character. -/
abbrev Character := BitVec 9

/-- A set of notice kinds, one bit for each kind (R199). -/
abbrev NoticeSet := BitVec 16

/-- A text as stored or as sent: its characters, one byte each (R198). -/
abbrev Text := List Byte

end Sys2Proof
end

