-- ==== Sys2Proof/Syntax.lean ====
section
/-! DEFINITION. The commands of the part: one constructor for each row of spec/opcode_table.json, in the table's order. -/

namespace Sys2Proof

/-- The panel's three buttons (R195). -/
inductive Button where
  | start | stop | rewind
  deriving DecidableEq, Repr

/-- One conversion of the converter (R27), as its two analogue inputs: the channel's voltage and VREF, in one unit. -/
structure Conversion where
  voltage : Nat
  vref    : Nat
  deriving DecidableEq, Repr

/-- One scan of a meter pass (R28): a conversion of REF, RED, GREEN and BLUE, in that order. -/
structure Scan where
  ref   : Conversion
  red   : Conversion
  green : Conversion
  blue  : Conversion
  deriving DecidableEq, Repr

/-- The commands. A request's operand is the body of its addressed frame, which is complete at the port (R179);
the operands of an event are what the part reads when the event is taken. -/
inductive Instr where
  -- requests (R184, R200, R201)
  | status (body : List Byte)
  | setNoticeEnable (body : List Byte)
  | clearNoticeEnable (body : List Byte)
  | clearNotices (body : List Byte)
  | restart (body : List Byte)
  | stop (body : List Byte)
  | submitOrder (body : List Byte)
  | cancelOrder (body : List Byte)
  | orderReport (body : List Byte)
  | retireOrder (body : List Byte)
  | start (body : List Byte)
  | setLibraryMark (body : List Byte)
  | labelStatus (body : List Byte)
  | resumePrinter (body : List Byte)
  | declareRoll (body : List Byte)
  | rewind (body : List Byte)
  | rollReport (body : List Byte)
  | keepReport (body : List Byte)
  | closeRoll (body : List Byte)
  | setFilmKind (body : List Byte)
  | readFilmKind (body : List Byte)
  | setStandCalibration (body : List Byte)
  | readStandCalibration (body : List Byte)
  | calibrateLamp (body : List Byte)
  | meterTest (body : List Byte)
  | readMetering (body : List Byte)
  | setAccount (body : List Byte)
  | accountReport (body : List Byte)
  | closeAccount (body : List Byte)
  | resetPeriod (body : List Byte)
  | setRates (body : List Byte)
  | readRates (body : List Byte)
  -- the stand line (R173 to R183)
  | broadcastStop
  | broadcastRestart
  /-- A good address character: its eight data bits below the ninth. -/
  | addressCharacter (bits : Byte)
  /-- A good data character: its byte. -/
  | dataCharacter (byte : Byte)
  | badCharacter
  | gapTimeout
  | replyBegin
  | replyEnd
  -- power, RESET and the Settings Store (R163 to R171)
  | powerOn
  /-- Loss of power: the bytes that a write it cuts leaves in the place being written (R171). -/
  | powerLoss (torn : List Byte)
  | resetFall
  | resetRise
  /-- The end of the load: the station and rate straps as they stand when they are read (R174). -/
  | loadEnd (station : BitVec 4) (rate : BitVec 2)
  | writeEnd
  -- switches and buttons (R67, R68, R141, R195)
  | gateSwitchChange (closed : Bool)
  | gateChange
  | keySwitchChange (closed : Bool)
  | keyReadingChange
  | buttonLevelChange (button : Button) (closed : Bool)
  | startPress
  | stopPress
  | rewindPress
  -- lightings (R34, R38, R42, R64, R65)
  | settleEnd
  | exposureTimeEnd
  /-- The end of a group of the lamp watch: its four conversions of REF. -/
  | watchGroupEnd (c1 c2 c3 c4 : Conversion)
  | orderPassEnd (s1 s2 s3 s4 : Scan)
  | testPassEnd (s1 s2 s3 s4 : Scan)
  /-- The end of a calibration stage. Stage 1 reads all four scans whole; a reference pass, stages 2 to 4, is the
  four conversions of REF, and reads nothing else of its operands. -/
  | calibrationStageEnd (s1 s2 s3 s4 : Scan)
  -- magazine and film (R78 to R96)
  /-- The two detect contacts as they now stand, true for closed. -/
  | detectReadingChange (contact1 contact2 : Bool)
  /-- BOTH has held 100 ms: the two code contacts as they stand then, true for closed. -/
  | magazineSeated (code1 code2 : Bool)
  | misseated
  | seatingEmpty
  | magazineRemoval
  | perforationPulse
  | leaderStall
  | advanceStall
  | rewindEnd
  | rewindJam
  -- the label printer (R127 to R132)
  | byteTaken
  | busyTimeout
  | fedPulse
  | fedTimeout
  | prnStockFall
  | prnFaultFall
  -- a button's release (R195) and the printer lines' rises (R131, R132)
  | buttonRelease (button : Button)
  | prnStockRise
  | prnFaultRise
  deriving DecidableEq, Repr

end Sys2Proof
end

