-- ==== Sys2Proof/Config.lean ====
section
/-! DEFINITION. What is fixed for every JC-218: table sizes, limits and times of the rules, the two properties of the
non-volatile memory that the manual leaves open, and the free value of a line that no command brings. -/

namespace Sys2Proof.Config

/-- Orders the table holds (R3). -/
def maxOrders : Nat := 16
/-- Roll records the table holds (R100). -/
def maxRolls : Nat := 4
/-- Entries the label queue holds (R121). -/
def maxLabels : Nat := 48
/-- Account slots (R139). -/
def accountSlots : Nat := 32
/-- The largest allowance or warn level (R154). -/
def maxMoney : Nat := 9999999
/-- The largest account number (R154). -/
def maxAccount : Nat := 9999
/-- The longest body of a request frame: LEN is at most 64 and counts KIND (R177). -/
def maxBody : Nat := 63
/-- The largest heat used (R69). -/
def maxHeat : Nat := 65535
/-- Time of the four scans of a meter pass, in ms (R28). -/
def passTime : Nat := 20
/-- Time of a reference pass of a calibration, and of one group of the lamp watch, in ms (R34, R38). -/
def groupTime : Nat := 5
/-- Hold time of a switch or button, in ms (R67, R141, R195). -/
def debounceTime : Nat := 30
/-- Time for which contacts other than BOTH make a removal, in ms (R83). -/
def removalTime : Nat := 30
/-- The largest count of the detect reading: more than 500 ms of ONE is misseated (R80, R82). -/
def heldLimit : Nat := 501
/-- Stall limit of leader and advance, in ms (R86). -/
def stallLimit : Nat := 400
/-- Rewind-end limit, in ms (R86). -/
def rewindEndLimit : Nat := 600
/-- Jam limit, in ms (R86). -/
def jamLimit : Nat := 1000
/-- Pulses of the leader (R88). -/
def leaderPulses : Nat := 16
/-- Pulses of an advance (R91). -/
def advancePulses : Nat := 8
/-- Wait for PRN_BUSY, in ms (R128). -/
def busyLimit : Nat := 10000
/-- Wait for the FED pulse, in ms (R129). -/
def fedLimit : Nat := 5000
/-- Gap inside a frame, in ms (R178). -/
def gapLimit : Nat := 20
/-- Latest beginning of a reply, in ms (R182). -/
def replyLimit : Nat := 10
/-- Time of one place write, in ms (R166). -/
def writeTime : Nat := 6
/-- What the bytes of a place sum to modulo 256 (R161). -/
def placeSum : Byte := 90

/-- What an erased byte of the non-volatile memory reads as. PRESUMED (log 8): the manual does not say. -/
def erasedByte : Byte := 255

/-- Whether PRN_BUSY is low at a look the Label Unit takes at it before a label's first strobe (R127). A free value: the
command table has no row for a fall of PRN_BUSY before a strobe, and nothing is known of the line then (log 34). -/
opaque busyLow : Nat → Bool

/-- Bytes of each place, the check byte included. DESIGN CHOICE (log 7): the fields of R161 in the order it names
them, in the sizes of 12_message_formats.md. -/
def placeSize (place : Nat) : Nat :=
  if place = 0 then 24 else if place ≤ 4 then 8 else if place = 5 then 13 else 18

end Sys2Proof.Config
end

