-- ==== Sys2Proof/Machine/State.lean ====
section
/-! DEFINITION. Everything the part holds, block by block as 00_scope.md section 3 names the blocks, and its value after
a RESET. Plain data throughout. -/

namespace Sys2Proof.Machine

/-! ## Why a step can stop -/

/-- The faults of the part. There are none: the manual names no event that stops it (its alarms are notices, result
codes and marks, all of them state). Nobody raises one. -/
inductive Fault where
  deriving DecidableEq, Repr

/-- The refusals of the model. -/
inductive Refusal where
  /-- Raised by an arm of exec whose command has no meaning yet; no arm is one. Safe: nothing is claimed of it. -/
  | notModelled (mnemonic : String)
  deriving DecidableEq, Repr

/-! ## Codes of the rules -/

/-- The result codes a reply can carry (R184). -/
inductive Result where
  | done | accepted | unknownKind | badLength | outOfRange | wrongState | tableFull | duplicate | noSuch | locked
  | keyOff | insufficient | belowCommitted | noMark | notReady | busy
  deriving DecidableEq, Repr

/-- The notice kinds of section 11.1, in number order. -/
inductive Notice where
  | orderFinished | orderPaused | rollEnd | magazine | fogged | slide | lampFault | meteringDone | labelsDone
  | printer | accountLow | store | startRefused | rollReady
  deriving DecidableEq, Repr

/-- Why a Start is refused (R9); `none` before any refused press (R188). -/
inductive StartRefusal where
  | none | noOrder | noFilm | kindMismatch | noSlide | uncalibrated | busy
  deriving DecidableEq, Repr

inductive PauseReason where
  | roll | lamp
  deriving DecidableEq, Repr

inductive FinishReason where
  | stopped | slideRemoved | heatLimit | magazineRemoved | restart
  deriving DecidableEq, Repr

/-- Order states; PAUSED and CUT_SHORT carry the reason that is present in them only (section 1.1). -/
inductive OrderState where
  | queued | metering | exposing
  | paused (reason : PauseReason)
  | done
  | cutShort (reason : FinishReason)
  | cancelled
  deriving DecidableEq, Repr

/-- Operation states of the Metering Unit (R27). -/
inductive MeterState where
  | idle | pass | test | calibration | watch
  deriving DecidableEq, Repr

/-- Outcomes of the last metering record (section 2.3). -/
inductive PassOutcome where
  | ok | lampFault | abandoned | failed
  deriving DecidableEq, Repr

/-- Exposure unit states (R62). -/
inductive UnitState where
  | idle | settle | meter | expose
  deriving DecidableEq, Repr

/-- Lamp states with their step, 0 to 3 (R62). -/
inductive Lamp where
  | off
  | settling (step : Nat)
  | lit (step : Nat)
  deriving DecidableEq, Repr

/-- What a lighting is for (R62); an exposure's lamp step and time come from its plan entry. -/
inductive Purpose where
  | orderPass | testPass | calibration
  | exposure (step time : Nat)
  deriving DecidableEq, Repr

/-- Transport states (R79); `atEnd` is END. -/
inductive TransportState where
  | empty | seating | misseated | loaded | leader | ready | advancing | atEnd | rewinding | rewound | jammed
  deriving DecidableEq, Repr

inductive Motor where
  | off | forward | reverse
  deriving DecidableEq, Repr

/-- The detect reading formed from the two detect contacts (R78). -/
inductive DetectReading where
  | none | one | both
  deriving DecidableEq, Repr

/-- Roll states; the processing date is present in KEEP_REPORTED only (section 6.1). -/
inductive RollState where
  | inCamera | out
  | keepReported (date : Text)
  | fogged
  deriving DecidableEq, Repr

inductive FrameState where
  | blank | exposed | spoiled | kept | rejected | labelled | fogged
  deriving DecidableEq, Repr

/-- Why the printer is FAULTED (R118). -/
inductive FaultCause where
  | faultLine | busyTimeout | fedTimeout
  deriving DecidableEq, Repr

/-- Printer states (R118). The label in print and the index of its byte in turn are present in SENDING and FEEDING, where
the index stays at the form feed (R127); the fault cause in FAULTED. -/
inductive Printer where
  | idle
  | sending (label : List Byte) (index : Nat)
  | feeding (label : List Byte) (index : Nat)
  | stockOut
  | faulted (cause : FaultCause)
  deriving DecidableEq, Repr

/-! ## Records -/

/-- A switch read with a hold time (R67, R141, R195): its level (true for closed), the reading taken from it, and the
ms for which a level other than the reading has been held, while it is being counted. -/
structure Debounce where
  level   : Bool
  reading : Bool
  count   : Option Nat
  deriving DecidableEq, Repr

/-- The four flags of a plan entry and of a frame entry (R58). -/
structure ExposureFlags where
  isOver    : Bool
  isUnder   : Bool
  isClipped : Bool
  isDark    : Bool
  deriving DecidableEq, Repr

/-- A plan entry (R57). -/
structure PlanEntry where
  offset : Int
  stop   : Int
  step   : Nat
  time   : Nat
  flags  : ExposureFlags
  heat   : Nat
  deriving DecidableEq, Repr

/-- An order record (section 1.1). -/
structure Order where
  id                : Nat
  account           : Nat
  filmKind          : Nat
  catalogue         : Text
  title             : Text
  offsets           : List Int
  copies            : Nat
  labels            : Bool
  setupFee          : Nat
  frameRate         : Nat
  labelRate         : Nat
  setupHold         : Nat
  frameHold         : Nat
  labelHold         : Nat
  state             : OrderState
  cancelRequested   : Bool
  nextStep          : Nat
  nextCopy          : Nat
  exposed           : Nat
  spoiled           : Nat
  plan              : Option (List PlanEntry)
  taken             : List (Nat × Nat)
  labelsOutstanding : Nat
  deriving DecidableEq, Repr

/-- The averages of a meter pass as measured, 0 to 1023 (R29); the DARK and CLIPPED flags follow from them. -/
structure Averages where
  ref   : Nat
  red   : Nat
  green : Nat
  blue  : Nat
  deriving DecidableEq, Repr

/-- The last metering record (section 2.3): each pass kind with the fields present for it. -/
inductive MeterRecord where
  | none
  | order (outcome : PassOutcome) (orderId : Nat) (averages : Averages) (ageing : Int)
  | test (outcome : PassOutcome) (filmKind : Nat) (offset : Int) (averages : Option Averages) (ageing : Option Int)
      (entry : Option PlanEntry)
  | calibration (outcome : PassOutcome) (steps : Nat) (averages : Option Averages) (references : List Nat)
      (offsets : List Int)
  deriving DecidableEq, Repr

/-- The Meter Test under way (R41). -/
structure MeterTest where
  filmKind : Nat
  offset   : Int
  deriving DecidableEq, Repr

/-- The results of a calibration's ended stages (R38): the averages of stage 1, and REF1 to REF3 as measured. -/
structure CalibrationResults where
  first      : Option Averages
  references : List Nat
  deriving DecidableEq, Repr

/-- A defined film kind record (R44). -/
structure FilmKind where
  tref          : Nat
  c             : Int
  wr            : Nat
  wg            : Nat
  wb            : Nat
  defaultFrames : Nat
  deriving DecidableEq, Repr

/-- The stand calibration record, place 0 (R36, R47, R75). -/
structure StandCalibration where
  heatLimit : Nat
  settle    : Nat
  c0        : Nat
  c1        : Nat
  c2        : Nat
  c3        : Nat
  tmin      : Nat
  tmax      : Nat
  refCal    : Nat
  baseRed   : Nat
  baseGreen : Nat
  baseBlue  : Nat
  e1        : Nat
  e2        : Nat
  e3        : Nat
  deriving DecidableEq, Repr

/-- A frame entry (section 6.4). In BLANK every field but the state is 0, as a report shows it (12.5). -/
structure Frame where
  state   : FrameState
  order   : Nat
  account : Nat
  step    : Nat
  copy    : Nat
  offset  : Int
  stop    : Int
  lamp    : Nat
  time    : Nat
  flags   : ExposureFlags
  charge  : Nat
  deriving DecidableEq, Repr

/-- A roll record (section 6.1); frame n is the entry at index n - 1. -/
structure Roll where
  number   : Nat
  filmKind : Nat
  declared : Nat
  usable   : Nat
  current  : Nat
  state    : RollState
  frames   : List Frame
  deriving DecidableEq, Repr

/-- A label queue entry (R118). -/
structure LabelEntry where
  roll  : Nat
  frame : Nat
  order : Nat
  deriving DecidableEq, Repr

/-- An account record (section 8.1). Available and the low mark follow from it (R140). -/
structure Account where
  number    : Nat
  suspended : Bool
  allowance : Nat
  warn      : Nat
  spent     : Nat
  held      : Nat
  damaged   : Bool
  deriving DecidableEq, Repr

/-- The rates of a valid rate card (R142). -/
structure RateCard where
  setup : Nat
  frame0 : Nat
  frame1 : Nat
  frame2 : Nat
  frame3 : Nat
  label : Nat
  deriving DecidableEq, Repr

/-- An addressed request as it is held: its KIND and its body (R179). -/
structure Request where
  kind : Nat
  body : List Byte
  deriving DecidableEq, Repr

/-- A request in service, with the reply fixed when it was taken (R180, R181). -/
structure Service where
  kind   : Nat
  result : Result
  body   : List Byte
  deriving DecidableEq, Repr

/-- Frame assembly (R176): the target is true for a broadcast frame; the bytes are those from KIND on. -/
inductive Assembly where
  | unaddressed
  | expectLen (toAll : Bool)
  | collecting (toAll : Bool) (len : Nat) (bytes : List Byte) (sum : Byte)
  | expectCheck (toAll : Bool) (bytes : List Byte) (sum : Byte)
  deriving DecidableEq, Repr

/-- The reply transmitter (R182); in SENDING with the characters of the reply. -/
inductive Transmitter where
  | idle | waiting
  | sending (characters : List Character)
  deriving DecidableEq, Repr

/-- The phase of the part: without power, held by RESET, loading the Settings Store, or listening (R163, R170, R171). -/
inductive Phase where
  | off | held | loading | listening
  deriving DecidableEq, Repr

/-- The place being written, its snapshot with the check byte, and the ms written so far (R166). -/
structure PlaceWrite where
  place   : Nat
  image   : List Byte
  elapsed : Nat
  deriving DecidableEq, Repr

/-! ## Blocks -/

structure Power where
  phase     : Phase
  resetHigh : Bool
  deriving DecidableEq, Repr

/-- The Line Port (chapter 10). -/
structure LinePort where
  station     : BitVec 4
  rate        : BitVec 2
  assembly    : Assembly
  gap         : Nat
  inService   : Option Service
  held        : Option Request
  transmitter : Transmitter
  replyWait   : Nat
  deriving DecidableEq, Repr

/-- The Notice Unit (R188). -/
structure NoticeUnit where
  pending      : NoticeSet
  enabled      : NoticeSet
  lastRefusal  : StartRefusal
  lastFinished : Nat
  deriving DecidableEq, Repr

/-- The Order Table (R3): the records in order of admission, and the active-order mark. -/
structure OrderTable where
  table  : List Order
  active : Option Nat
  deriving DecidableEq, Repr

/-- The Metering Unit (chapter 2). -/
structure MeteringUnit where
  state       : MeterState
  test        : Option MeterTest
  calibrating : Option CalibrationResults
  watchGroups : Nat
  record      : MeterRecord
  fresh       : Bool
  deriving DecidableEq, Repr

/-- The Exposure Unit (R62). `firstReading`: the first gate reading after the reset is still to come (R67). `frameWaits`,
the model's own: a first frame waits for the Cancel Order that met the end of its pass (R73, log 33). -/
structure ExposureUnit where
  state        : UnitState
  lamp         : Lamp
  levelCode    : Nat
  lampEnable   : Bool
  shutterOpen  : Bool
  gate         : Debounce
  firstReading : Bool
  heatUsed     : Nat
  purpose      : Option Purpose
  litTime      : Nat
  frameWaits   : Bool
  deriving DecidableEq, Repr

/-- The Transport Unit (R78, R79, R80, R83). -/
structure TransportUnit where
  state         : TransportState
  loadedKind    : Option Nat
  roll          : Option Nat
  currentFrame  : Nat
  motor         : Motor
  pulseCount    : Nat
  pulseSeen     : Bool
  quietTime     : Nat
  advanceFor    : Option Nat
  detect1       : Bool
  detect2       : Bool
  held          : Nat
  openFor       : Option Nat
  fromMisseated : Bool
  deriving DecidableEq, Repr

/-- The Label Unit (R118) with the levels of the printer's lines. `strobed`: in SENDING, the byte in turn has been placed
on the data lines and its strobe given (R127). `looks` is the model's own: the looks at PRN_BUSY so far (log 34). -/
structure LabelUnit where
  mark      : Option Text
  locked    : Bool
  queue     : List LabelEntry
  printer   : Printer
  wait      : Nat
  dataLines : Byte
  strobed   : Bool
  looks     : Nat
  stockHigh : Bool
  faultHigh : Bool
  deriving DecidableEq, Repr

/-- The Account Table (chapter 8): 32 slots, the rate card when it is valid, and the KEY switch. -/
structure AccountTable where
  slots : List (Option Account)
  rates : Option RateCard
  key   : Debounce
  deriving DecidableEq, Repr

/-- The Settings Store (chapter 9): 38 places, 38 dirty marks, the write engine (none when it is IDLE), and whether a
RESET is deferred past the write under way. -/
structure SettingsStore where
  places       : List (List Byte)
  dirty        : List Bool
  engine       : Option PlaceWrite
  resetPending : Bool
  deriving DecidableEq, Repr

/-- The panel's buttons (R195). -/
structure Panel where
  start  : Debounce
  stop   : Debounce
  rewind : Debounce
  deriving DecidableEq, Repr

/-- The part, and the commands waiting for it, first in first out. `films` holds film kinds 0 to 3. -/
structure State where
  power       : Power
  line        : LinePort
  notices     : NoticeUnit
  orders      : OrderTable
  metering    : MeteringUnit
  films       : List (Option FilmKind)
  calibration : StandCalibration
  exposure    : ExposureUnit
  transport   : TransportUnit
  rolls       : List Roll
  labels      : LabelUnit
  accounts    : AccountTable
  store       : SettingsStore
  panel       : Panel
  pending     : List Instr
  deriving DecidableEq, Repr

/-! ## One update for each block -/

def State.withPower (s : State) (p : Power) : State := { s with power := p }
def State.withLine (s : State) (l : LinePort) : State := { s with line := l }
def State.withNotices (s : State) (n : NoticeUnit) : State := { s with notices := n }
def State.withOrders (s : State) (o : OrderTable) : State := { s with orders := o }
def State.withMetering (s : State) (m : MeteringUnit) : State := { s with metering := m }
def State.withFilms (s : State) (f : List (Option FilmKind)) : State := { s with films := f }
def State.withCalibration (s : State) (c : StandCalibration) : State := { s with calibration := c }
def State.withExposure (s : State) (e : ExposureUnit) : State := { s with exposure := e }
def State.withTransport (s : State) (t : TransportUnit) : State := { s with transport := t }
def State.withRolls (s : State) (r : List Roll) : State := { s with rolls := r }
def State.withLabels (s : State) (l : LabelUnit) : State := { s with labels := l }
def State.withAccounts (s : State) (a : AccountTable) : State := { s with accounts := a }
def State.withStore (s : State) (t : SettingsStore) : State := { s with store := t }
def State.withPanel (s : State) (p : Panel) : State := { s with panel := p }
def State.withPending (s : State) (q : List Instr) : State := { s with pending := q }

/-! ## The state after a RESET -/

/-- An open switch that reads open. -/
def Debounce.open : Debounce := { level := false, reading := false, count := none }

/-- The defaults of place 0 (R36, R47, R75, R163). -/
def StandCalibration.default : StandCalibration :=
  { heatLimit := 20000, settle := 250, c0 := 255, c1 := 180, c2 := 128, c3 := 90, tmin := 20, tmax := 8000,
    refCal := 0, baseRed := 1023, baseGreen := 1023, baseBlue := 1023, e1 := 8, e2 := 16, e3 := 24 }

def LinePort.reset : LinePort :=
  { station := 1, rate := 0, assembly := .unaddressed, gap := 0, inService := none, held := none,
    transmitter := .idle, replyWait := 0 }

def NoticeUnit.reset : NoticeUnit := { pending := 0, enabled := 0, lastRefusal := .none, lastFinished := 0 }

def OrderTable.reset : OrderTable := { table := [], active := none }

def MeteringUnit.reset : MeteringUnit :=
  { state := .idle, test := none, calibrating := none, watchGroups := 0, record := .none, fresh := false }

def ExposureUnit.reset : ExposureUnit :=
  { state := .idle, lamp := .off, levelCode := 0, lampEnable := false, shutterOpen := false, gate := .open,
    firstReading := false, heatUsed := 0, purpose := none, litTime := 0
    frameWaits := false }

def TransportUnit.reset : TransportUnit :=
  { state := .empty, loadedKind := none, roll := none, currentFrame := 0, motor := .off, pulseCount := 0,
    pulseSeen := false, quietTime := 0, advanceFor := none, detect1 := false, detect2 := false, held := 0,
    openFor := none, fromMisseated := false }

def LabelUnit.reset : LabelUnit :=
  { mark := none, locked := false, queue := [], printer := .idle, wait := 0, dataLines := 0, strobed := false,
    looks := 0, stockHigh := true, faultHigh := true }

def AccountTable.reset : AccountTable :=
  { slots := List.replicate Config.accountSlots none, rates := none, key := .open }

/-- The store's volatile part after a RESET; here every place reads erased (log 5). -/
def SettingsStore.reset : SettingsStore :=
  { places := (List.range 38).map fun p => List.replicate (Config.placeSize p) Config.erasedByte
    dirty := List.replicate 38 false, engine := none, resetPending := false }

def Panel.reset : Panel := { start := .open, stop := .open, rewind := .open }

/-- The part right after a RESET and the load that belongs to it, on a stand whose store has never been written
(log 5), with every switch open and the printer ready (log 6): the Line Port has begun to listen. Nothing waits. -/
def State.reset : State :=
  { power := { phase := .listening, resetHigh := true }, line := .reset, notices := .reset, orders := .reset,
    metering := .reset, films := [none, none, none, none], calibration := .default, exposure := .reset,
    transport := .reset, rolls := [], labels := .reset, accounts := .reset, store := .reset, panel := .reset,
    pending := [] }

end Sys2Proof.Machine
end

