-- ==== Sys2Proof/Machine/Bytes.lean ====
section
/-! DEFINITION. Fields of bodies and of store images (R197, R198): integers high byte first, signed values in two's
complement, texts; and the two check sums (R161, R181). -/

namespace Sys2Proof.Machine

/-! ## Writing fields -/

/-- A byte field. -/
def byteField (n : Nat) : List Byte := [BitVec.ofNat 8 n]

/-- A pair, high byte first. -/
def pairField (n : Nat) : List Byte := [BitVec.ofNat 8 (n / 256), BitVec.ofNat 8 n]

/-- A quad, high byte first. -/
def quadField (n : Nat) : List Byte := pairField (n / 65536) ++ pairField n

/-- A signed byte. -/
def signedByteField (z : Int) : List Byte := [BitVec.ofInt 8 z]

/-- A signed pair, high byte first. -/
def signedPairField (z : Int) : List Byte := pairField (BitVec.ofInt 16 z).toNat

/-- A yes-or-no byte. -/
def flagField (b : Bool) : List Byte := [if b then 1 else 0]

/-- A text: its length byte, then its characters. -/
def textField (t : Text) : List Byte := byteField t.length ++ t

/-- A notice set, as a pair (R199). -/
def setField (n : NoticeSet) : List Byte := pairField n.toNat

/-! ## Reading fields -/

/-- The byte at a position. -/
def byteAt (b : List Byte) (i : Nat) : Nat := (b.getD i 0).toNat

/-- The pair at a position. -/
def pairAt (b : List Byte) (i : Nat) : Nat := byteAt b i * 256 + byteAt b (i + 1)

/-- The quad at a position. -/
def quadAt (b : List Byte) (i : Nat) : Nat := pairAt b i * 65536 + pairAt b (i + 2)

/-- The signed byte at a position. -/
def signedByteAt (b : List Byte) (i : Nat) : Int := (b.getD i 0).toInt

/-- `n` bytes from a position. -/
def bytesAt (b : List Byte) (i n : Nat) : List Byte := (b.drop i).take n

/-! ## Characters -/

/-- A character as it is stored: a code outside 32 to 126 becomes "?", code 63 (R198). -/
def storedCharacter (c : Byte) : Byte := if 32 ≤ c.toNat ∧ c.toNat ≤ 126 then c else 63

/-- A text as it is stored, with the length it was sent with (R198). -/
def storedText (t : Text) : Text := t.map storedCharacter

/-! ## Check sums -/

/-- The sum of bytes modulo 256. -/
def byteSum (b : List Byte) : Byte := b.foldr (· + ·) 0

/-- Bytes with a check byte behind them, so that all of them sum to `total` (R161, R181). -/
def withCheck (total : Byte) (b : List Byte) : List Byte := b ++ [total - byteSum b]

end Sys2Proof.Machine
end

