-- ==== Sys2Proof/Machine/Flags.lean ====
section
/-! DEFINITION. Flags, marks and codes: the bits of notice sets (R199), the DARK and CLIPPED flags of averages (R29),
the flag bytes and code numbers of 12.3, and the conditions the rules give a name: available, low, calibrated, finished. -/

namespace Sys2Proof.Machine

/-! ## Notice sets -/

/-- The number of a notice kind (11.1). -/
def Notice.number : Notice → Nat
  | .orderFinished => 0 | .orderPaused => 1 | .rollEnd => 2 | .magazine => 3 | .fogged => 4 | .slide => 5
  | .lampFault => 6 | .meteringDone => 7 | .labelsDone => 8 | .printer => 9 | .accountLow => 10 | .store => 11
  | .startRefused => 12 | .rollReady => 13

/-- The set of one kind (R199). -/
def Notice.bit (n : Notice) : NoticeSet := BitVec.ofNat 16 (2 ^ n.number)

/-- Whether a set holds a kind. -/
def hasNotice (set : NoticeSet) (n : Notice) : Bool := set.getLsbD n.number

/-- Whether a set names a kind above 13 (R191, R199). -/
def namesUnknownNotice (set : NoticeSet) : Bool := set.toNat ≥ 16384

/-! ## Averages of a pass (R29) -/

/-- An average as used: 1 in place of 0. -/
def usedAverage (average : Nat) : Nat := if average = 0 then 1 else average

/-- The DARK flag of an average. -/
def isDark (average : Nat) : Bool := average = 0

/-- The CLIPPED flag of an average. -/
def isClipped (average : Nat) : Bool := average = 1023

/-- Whether a pass has any flag on any channel (R39). -/
def Averages.anyFlag (a : Averages) : Bool :=
  [a.ref, a.red, a.green, a.blue].any fun v => isDark v || isClipped v

/-- One bit of a flag byte. -/
def flagBit (b : Bool) (value : Nat) : Nat := if b then value else 0

/-- The channel flags of Read Metering (12.3). -/
def Averages.flagByte (a : Averages) : Nat :=
  flagBit (isDark a.ref) 1 + flagBit (isDark a.red) 2 + flagBit (isDark a.green) 4 + flagBit (isDark a.blue) 8 +
  flagBit (isClipped a.ref) 16 + flagBit (isClipped a.red) 32 + flagBit (isClipped a.green) 64 +
  flagBit (isClipped a.blue) 128

/-- The flag byte of a plan entry or frame entry (12.3). -/
def ExposureFlags.byte (f : ExposureFlags) : Nat :=
  flagBit f.isOver 1 + flagBit f.isUnder 2 + flagBit f.isClipped 4 + flagBit f.isDark 8

/-- No flag set. -/
def ExposureFlags.clear : ExposureFlags := { isOver := false, isUnder := false, isClipped := false, isDark := false }

/-! ## Accounts (R140) -/

/-- Available: allowance less spent less held. -/
def Account.available (a : Account) : Nat := a.allowance - a.spent - a.held

/-- The low mark. -/
def Account.low (a : Account) : Bool := a.available < a.warn

/-- The summary flag byte of an account (12.3). -/
def Account.flagByte (a : Account) : Nat := flagBit a.suspended 1 + flagBit a.low 2 + flagBit a.damaged 4

/-! ## Orders -/

/-- F, the planned frame count (section 1.1). -/
def Order.planned (o : Order) : Nat := o.offsets.length * o.copies

/-- The planned frames still unmade (R2). -/
def Order.unmade (o : Order) : Nat := o.planned - o.exposed - o.spoiled

/-- Whether an order is finished (section 1.1). -/
def OrderState.finished : OrderState → Bool
  | .done | .cutShort _ | .cancelled => true
  | .queued | .metering | .exposing | .paused _ => false

/-! ## Calibration and readings -/

/-- The stand is calibrated when REFcal is not 0 (R36). -/
def StandCalibration.calibrated (c : StandCalibration) : Bool := c.refCal ≠ 0

/-- The detect reading (R78). -/
def TransportUnit.reading (t : TransportUnit) : DetectReading :=
  match t.detect1, t.detect2 with
  | true, true => .both
  | false, false => .none
  | _, _ => .one

/-! ## Code numbers (12.3) -/

def Result.code : Result → Nat
  | .done => 0 | .accepted => 1 | .unknownKind => 16 | .badLength => 17 | .outOfRange => 18 | .wrongState => 32
  | .tableFull => 33 | .duplicate => 34 | .noSuch => 35 | .locked => 36 | .keyOff => 37 | .insufficient => 38
  | .belowCommitted => 39 | .noMark => 40 | .notReady => 41 | .busy => 42

def OrderState.code : OrderState → Nat
  | .queued => 0 | .metering => 1 | .exposing => 2 | .paused _ => 3 | .done => 4 | .cutShort _ => 5 | .cancelled => 6

def OrderState.pauseCode : OrderState → Nat
  | .paused .roll => 1
  | .paused .lamp => 2
  | .queued | .metering | .exposing | .done | .cutShort _ | .cancelled => 0

def OrderState.finishCode : OrderState → Nat
  | .cutShort .stopped => 1
  | .cutShort .slideRemoved => 2
  | .cutShort .heatLimit => 3
  | .cutShort .magazineRemoved => 4
  | .cutShort .restart => 5
  | .queued | .metering | .exposing | .paused _ | .done | .cancelled => 0

def StartRefusal.code : StartRefusal → Nat
  | .none => 0 | .noOrder => 1 | .noFilm => 2 | .kindMismatch => 3 | .noSlide => 4 | .uncalibrated => 5 | .busy => 6

def TransportState.code : TransportState → Nat
  | .empty => 0 | .seating => 1 | .misseated => 2 | .loaded => 3 | .leader => 4 | .ready => 5 | .advancing => 6
  | .atEnd => 7 | .rewinding => 8 | .rewound => 9 | .jammed => 10

def UnitState.code : UnitState → Nat
  | .idle => 0 | .settle => 1 | .meter => 2 | .expose => 3

def Printer.code : Printer → Nat
  | .idle => 0 | .sending _ _ => 1 | .feeding _ _ => 2 | .stockOut => 3 | .faulted _ => 4

def Printer.causeCode : Printer → Nat
  | .faulted .faultLine => 1
  | .faulted .busyTimeout => 2
  | .faulted .fedTimeout => 3
  | .idle | .sending _ _ | .feeding _ _ | .stockOut => 0

def RollState.code : RollState → Nat
  | .inCamera => 0 | .out => 1 | .keepReported _ => 2 | .fogged => 3

def FrameState.code : FrameState → Nat
  | .blank => 0 | .exposed => 1 | .spoiled => 2 | .kept => 3 | .rejected => 4 | .labelled => 5 | .fogged => 6

def PassOutcome.code : PassOutcome → Nat
  | .ok => 0 | .lampFault => 1 | .abandoned => 2 | .failed => 3

/-- The request kinds (12.3). -/
def kindStatus : Nat := 1
def kindSetNoticeEnable : Nat := 2
def kindClearNoticeEnable : Nat := 3
def kindClearNotices : Nat := 4
def kindRestart : Nat := 5
def kindStop : Nat := 6
def kindSetLibraryMark : Nat := 7
def kindSubmitOrder : Nat := 16
def kindCancelOrder : Nat := 17
def kindOrderReport : Nat := 18
def kindRetireOrder : Nat := 19
def kindStart : Nat := 20
def kindDeclareRoll : Nat := 32
def kindRewind : Nat := 33
def kindRollReport : Nat := 34
def kindKeepReport : Nat := 35
def kindCloseRoll : Nat := 36
def kindSetFilmKind : Nat := 48
def kindReadFilmKind : Nat := 49
def kindSetStandCalibration : Nat := 50
def kindReadStandCalibration : Nat := 51
def kindCalibrateLamp : Nat := 52
def kindMeterTest : Nat := 53
def kindReadMetering : Nat := 54
def kindLabelStatus : Nat := 64
def kindResumePrinter : Nat := 65
def kindSetAccount : Nat := 80
def kindAccountReport : Nat := 81
def kindCloseAccount : Nat := 82
def kindResetPeriod : Nat := 83
def kindSetRates : Nat := 84
def kindReadRates : Nat := 85

end Sys2Proof.Machine
end

