-- ==== Sys2Proof/Machine/Arithmetic.lean ====
section
/-! DEFINITION. Exposure arithmetic (chapter 3) and the averaging of conversions (R27, R29): whole numbers throughout,
every quotient rounded as its rule says. -/

namespace Sys2Proof.Machine

/-! ## Conversions and averages -/

/-- A reading: 1024 times the voltage divided by VREF, rounded down, with 1023 for any voltage at or above 1023/1024
of VREF (R27). -/
def readingOf (c : Conversion) : Nat :=
  if 1024 * c.voltage ≥ 1023 * c.vref then 1023 else 1024 * c.voltage / c.vref

/-- The average of four readings (R29). -/
def averageOf (a b c d : Nat) : Nat := (a + b + c + d + 2) / 4

/-- The average of four conversions of one channel. -/
def averageReading (a b c d : Conversion) : Nat := averageOf (readingOf a) (readingOf b) (readingOf c) (readingOf d)

/-- The averages of the four scans of a pass (R28, R29). -/
def passAverages (s1 s2 s3 s4 : Scan) : Averages :=
  { ref := averageReading s1.ref s2.ref s3.ref s4.ref
    red := averageReading s1.red s2.red s3.red s4.red
    green := averageReading s1.green s2.green s3.green s4.green
    blue := averageReading s1.blue s2.blue s3.blue s4.blue }

/-! ## The log function and the lamp test -/

/-- L, eight times the base-2 logarithm in whole numbers (R49). -/
def logEighths (v : Nat) : Nat :=
  let e := Nat.log2 v
  8 * e + (v - 2 ^ e) * 8 / 2 ^ e

/-- The lamp ageing term A (R30, R50), from the REF average as measured. -/
def ageingTerm (cal : StandCalibration) (ref : Nat) : Int :=
  (logEighths cal.refCal : Int) - logEighths (usedAverage ref)

/-- The lamp test of R30: whether a pass finds the lamp failing. -/
def lampFailing (cal : StandCalibration) (ref : Nat) : Bool :=
  usedAverage ref < 64 || ageingTerm cal ref < -16 || ageingTerm cal ref > 16

/-- The threshold of the lamp watch (R34), from the REF average as used at metering and the lamp step. -/
def watchThreshold (refUsed step : Nat) : Nat :=
  if refUsed / 2 ^ (step + 2) = 0 then 1 else refUsed / 2 ^ (step + 2)

/-! ## Densities and stop values -/

/-- A channel density (R50): clamped to 0 to 79. -/
def density (baseline average : Nat) (ageing : Int) : Nat :=
  let d := (logEighths baseline : Int) - logEighths (usedAverage average) - ageing
  if d < 0 then 0 else if d > 79 then 79 else d.toNat

/-- The weighted density D (R51). -/
def weightedDensity (f : FilmKind) (dr dg db : Nat) : Nat :=
  let w := f.wr + f.wg + f.wb
  (f.wr * dr + f.wg * dg + f.wb * db + w / 2) / w

/-- D of a pass for a film kind (R50, R51). -/
def passDensity (cal : StandCalibration) (f : FilmKind) (a : Averages) : Nat :=
  let ageing := ageingTerm cal a.ref
  weightedDensity f (density cal.baseRed a.red ageing) (density cal.baseGreen a.green ageing)
    (density cal.baseBlue a.blue ageing)

/-- The stop value S of a bracket step (R52). -/
def stopValue (cal : StandCalibration) (f : FilmKind) (a : Averages) (offset : Int) : Int :=
  (passDensity cal f a : Int) + f.c + offset + ageingTerm cal a.ref

/-! ## Times and lamp steps -/

/-- The fractional factors M[r], scaled by 1000 (section 3.7). -/
def fractionFactor (r : Nat) : Nat := [1000, 1091, 1189, 1297, 1414, 1542, 1682, 1834].getD r 1000

/-- time(s) in ms (R53). -/
def timeOf (tref : Nat) (s : Int) : Nat :=
  let q := s / 8
  let r := (s % 8).toNat
  let divisor := if q ≥ 0 then 1000 else 1000 * 2 ^ (-q).toNat
  let product := if q ≥ 0 then tref * fractionFactor r * 2 ^ q.toNat else tref * fractionFactor r
  (product + divisor / 2) / divisor

/-- The step offset Ek, E0 being 0 (section 2.5). -/
def StandCalibration.stepOffset (c : StandCalibration) (k : Nat) : Nat :=
  match k with
  | 0 => 0
  | 1 => c.e1
  | 2 => c.e2
  | _ => c.e3

/-- The level code of a lamp step (section 4.2). -/
def StandCalibration.code (c : StandCalibration) (k : Nat) : Nat :=
  match k with
  | 0 => c.c0
  | 1 => c.c1
  | 2 => c.c2
  | _ => c.c3

/-- The candidate time Tk (R54). -/
def candidateTime (cal : StandCalibration) (tref : Nat) (stop : Int) (k : Nat) : Nat :=
  timeOf tref (stop + cal.stepOffset k)

/-- The smallest of four lamp steps whose candidate time is at least Tmin, if there is one (R55). -/
def firstStep (cal : StandCalibration) (tref : Nat) (stop : Int) : Option Nat :=
  [0, 1, 2, 3].find? fun k => cal.tmin ≤ candidateTime cal tref stop k

/-- The lamp step, the time and the flags OVER and UNDER of a stop value (R55, R56). -/
def chooseStep (cal : StandCalibration) (tref : Nat) (stop : Int) : Nat × Nat × Bool × Bool :=
  match firstStep cal tref stop with
  | none => (3, cal.tmin, true, false)
  | some k =>
    let t := candidateTime cal tref stop k
    if t > cal.tmax then (k, cal.tmax, false, true) else (k, t, false, false)

/-! ## Heat costs and plan entries -/

/-- A quotient by 2^k rounded up: the heat of some ms at lamp step k (R59, R69). -/
def heatOf (ms k : Nat) : Nat := (ms + (2 ^ k - 1)) / 2 ^ k

/-- The heat cost of a meter pass (R59). -/
def passHeat (cal : StandCalibration) : Nat := cal.settle + Config.passTime

/-- The heat cost of an exposure (R59). -/
def exposureHeat (cal : StandCalibration) (step time : Nat) : Nat := heatOf (cal.settle + time) step

/-- The CLIPPED flag of the entries of a pass (R58). -/
def planClipped (f : FilmKind) (a : Averages) : Bool :=
  isClipped a.ref || (f.wr ≠ 0 && isClipped a.red) || (f.wg ≠ 0 && isClipped a.green) ||
    (f.wb ≠ 0 && isClipped a.blue)

/-- The DARK flag of the entries of a pass (R58). -/
def planDark (f : FilmKind) (a : Averages) : Bool :=
  (f.wr ≠ 0 && isDark a.red) || (f.wg ≠ 0 && isDark a.green) || (f.wb ≠ 0 && isDark a.blue)

/-- The plan entry of one offset (R48, R50 to R59). -/
def planEntry (cal : StandCalibration) (f : FilmKind) (a : Averages) (offset : Int) : PlanEntry :=
  let stop := stopValue cal f a offset
  let chosen := chooseStep cal f.tref stop
  { offset := offset, stop := stop, step := chosen.1, time := chosen.2.1
    flags := { isOver := chosen.2.2.1, isUnder := chosen.2.2.2, isClipped := planClipped f a, isDark := planDark f a }
    heat := exposureHeat cal chosen.1 chosen.2.1 }

/-- A plan entry of zeros: what stands for an entry that is absent. -/
def PlanEntry.zero : PlanEntry :=
  { offset := 0, stop := 0, step := 0, time := 0, flags := .clear, heat := 0 }

/-! ## Calibration results (R38, R39) -/

/-- Ek measured: L of the REFcal candidate less L of REFk. -/
def measuredOffset (candidate reference : Nat) : Int :=
  (logEighths (usedAverage candidate) : Int) - logEighths (usedAverage reference)

/-- Whether four ended stages are accepted (R39). -/
def calibrationAccepted (first : Averages) (r1 r2 r3 : Nat) : Bool :=
  let e1 := measuredOffset first.ref r1
  let e2 := measuredOffset first.ref r2
  let e3 := measuredOffset first.ref r3
  usedAverage first.ref ≥ 64 && !first.anyFlag &&
    [r1, r2, r3].all (fun r => !isDark r && !isClipped r) &&
    4 ≤ e1 && e1 ≤ 12 && 4 ≤ e2 - e1 && e2 - e1 ≤ 12 && 4 ≤ e3 - e2 && e3 - e2 ≤ 12

end Sys2Proof.Machine
end

