-- ==== Sys2Proof/Machine/Images.lean ====
section
/-! DEFINITION. The stored images of the Settings Store: what each place holds (R161), how a place is judged (R162), and
the working copies a load makes of the places (R139, R163). The layout of a place and the codings of its fields are
DESIGN CHOICE, unsafe (log 7). -/

namespace Sys2Proof.Machine

/-! ## Images of records -/

/-- The fields of place 0. -/
def StandCalibration.fields (c : StandCalibration) : List Byte :=
  pairField c.heatLimit ++ pairField c.settle ++ byteField c.c0 ++ byteField c.c1 ++ byteField c.c2 ++
    byteField c.c3 ++ pairField c.tmin ++ pairField c.tmax ++ pairField c.refCal ++ pairField c.baseRed ++
    pairField c.baseGreen ++ pairField c.baseBlue ++ byteField c.e1 ++ byteField c.e2 ++ byteField c.e3

/-- The fields of places 1 to 4. That C stands as one byte in two's complement is DESIGN CHOICE, unsafe (log 7). -/
def FilmKind.fields (f : FilmKind) : List Byte :=
  pairField f.tref ++ signedByteField f.c ++ byteField f.wr ++ byteField f.wg ++ byteField f.wb ++
    byteField f.defaultFrames

/-- The fields of place 5. -/
def RateCard.fields (r : RateCard) : List Byte :=
  pairField r.setup ++ pairField r.frame0 ++ pairField r.frame1 ++ pairField r.frame2 ++ pairField r.frame3 ++
    pairField r.label

/-- The fields of places 6 to 37: the number stands a second time as 65535 less itself (R161). That the state byte is 0
for ACTIVE and 1 for SUSPENDED is DESIGN CHOICE, unsafe (log 7). -/
def Account.fields (a : Account) : List Byte :=
  pairField a.number ++ pairField (65535 - a.number) ++ flagField a.suspended ++ quadField a.allowance ++
    quadField a.warn ++ quadField a.spent

/-- A place that reads erased. -/
def erasedPlace (place : Nat) : List Byte := List.replicate (Config.placeSize place) Config.erasedByte

/-- The image of a place's working copy, check byte included: blank for a free slot, and for a record that holds no
figures (R161, R166). -/
def State.image (s : State) (place : Nat) : List Byte :=
  let stored (fields : List Byte) := withCheck Config.placeSum fields
  if place = 0 then stored s.calibration.fields
  else if place ≤ 4 then ((s.films.getD (place - 1) none).map fun f => stored f.fields).getD (erasedPlace place)
  else if place = 5 then (s.accounts.rates.map fun r => stored r.fields).getD (erasedPlace place)
  else ((s.accounts.slots.getD (place - 6) none).map fun a => stored a.fields).getD (erasedPlace place)

/-! ## Reading records -/

/-- The lamp codes fall strictly and the least is at least 16 (R75). -/
def codesFall (c0 c1 c2 c3 : Nat) : Bool := c0 > c1 && c1 > c2 && c2 > c3 && c3 ≥ 16 && c0 ≤ 255

/-- The ranges of the fields that Set Stand Calibration carries (R47, R75). -/
def StandCalibration.settingsInRange (c : StandCalibration) : Bool :=
  1000 ≤ c.heatLimit && c.heatLimit ≤ 60000 && 50 ≤ c.settle && c.settle ≤ 1000 && codesFall c.c0 c.c1 c.c2 c.c3 &&
    10 ≤ c.tmin && c.tmin ≤ 200 && 500 ≤ c.tmax && c.tmax ≤ 30000

/-- The range test of place 0 (R162). -/
def StandCalibration.inRange (c : StandCalibration) : Bool :=
  c.settingsInRange && (c.refCal = 0 || (64 ≤ c.refCal && c.refCal ≤ 1022)) &&
    [c.baseRed, c.baseGreen, c.baseBlue].all (fun b => 1 ≤ b && b ≤ 1023) &&
    4 ≤ c.e1 && c.e1 ≤ 12 && c.e1 + 4 ≤ c.e2 && c.e2 ≤ c.e1 + 12 && c.e2 + 4 ≤ c.e3 && c.e3 ≤ c.e2 + 12

/-- The ranges of a film kind but for its weights being not all 0 (R45). -/
def FilmKind.figuresInRange (f : FilmKind) : Bool :=
  1 ≤ f.tref && f.tref ≤ 2000 && -32 ≤ f.c && f.c ≤ 32 && f.wr ≤ 3 && f.wg ≤ 3 && f.wb ≤ 3 &&
    12 ≤ f.defaultFrames && f.defaultFrames ≤ 40

/-- The range test of places 1 to 4 (R162). -/
def FilmKind.inRange (f : FilmKind) : Bool := f.figuresInRange && f.wr + f.wg + f.wb ≠ 0

/-- The range test of places 6 to 37, but for the two copies of the number and the state (R162). -/
def Account.inRange (a : Account) : Bool :=
  1 ≤ a.number && a.number ≤ Config.maxAccount && a.allowance ≤ Config.maxMoney && a.warn ≤ Config.maxMoney &&
    a.spent ≤ a.allowance

/-- The record of place 0, if its fields are in range. -/
def readCalibration (b : List Byte) : Option StandCalibration :=
  let c : StandCalibration :=
    { heatLimit := pairAt b 0, settle := pairAt b 2, c0 := byteAt b 4, c1 := byteAt b 5, c2 := byteAt b 6,
      c3 := byteAt b 7, tmin := pairAt b 8, tmax := pairAt b 10, refCal := pairAt b 12, baseRed := pairAt b 14,
      baseGreen := pairAt b 16, baseBlue := pairAt b 18, e1 := byteAt b 20, e2 := byteAt b 21, e3 := byteAt b 22 }
  if c.inRange then some c else none

/-- The figures of a film kind at a position: of a place, or of a Set Film Kind body. -/
def filmKindAt (b : List Byte) (i : Nat) : FilmKind :=
  { tref := pairAt b i, c := signedByteAt b (i + 2), wr := byteAt b (i + 3), wg := byteAt b (i + 4),
    wb := byteAt b (i + 5), defaultFrames := byteAt b (i + 6) }

/-- The record of places 1 to 4, if its fields are in range. -/
def readFilmKind (b : List Byte) : Option FilmKind :=
  if (filmKindAt b 0).inRange then some (filmKindAt b 0) else none

/-- The six rates at a position: of place 5, or of a Set Rates body. -/
def rateCardAt (b : List Byte) (i : Nat) : RateCard :=
  { setup := pairAt b i, frame0 := pairAt b (i + 2), frame1 := pairAt b (i + 4), frame2 := pairAt b (i + 6),
    frame3 := pairAt b (i + 8), label := pairAt b (i + 10) }

/-- The record of place 5: every value of a rate field is in range (R162). -/
def readRateCard (b : List Byte) : Option RateCard := some (rateCardAt b 0)

/-- The account number of a place, when it is readable: its two copies agree and it lies in 1 to 9999 (R162). -/
def readableNumber (b : List Byte) : Option Nat :=
  if pairAt b 0 + pairAt b 2 = 65535 ∧ 1 ≤ pairAt b 0 ∧ pairAt b 0 ≤ Config.maxAccount then some (pairAt b 0) else none

/-- The record of places 6 to 37, if its fields are in range, with held 0 and damaged no (R139). A state byte above 1 is
neither ACTIVE nor SUSPENDED (log 7). -/
def readAccount (b : List Byte) : Option Account :=
  let a : Account :=
    { number := pairAt b 0, suspended := byteAt b 4 = 1, allowance := quadAt b 5, warn := quadAt b 9,
      spent := quadAt b 13, held := 0, damaged := false }
  if (readableNumber b).isSome && byteAt b 4 ≤ 1 && a.inRange then some a else none

/-! ## Judging and loading places -/

/-- The judgement of a place (R162). -/
inductive Judged (α : Type) where
  | blank
  | valid (record : α)
  | damaged
  deriving DecidableEq, Repr

/-- The tests of R162 in their order: all erased, the sum of the bytes, the ranges. -/
def judge {α : Type} (read : List Byte → Option α) (image : List Byte) : Judged α :=
  if image.all (· = Config.erasedByte) then .blank
  else if byteSum image ≠ Config.placeSum then .damaged
  else match read image with
    | some r => .valid r
    | none => .damaged

/-- The record of a judged place, if it is valid. -/
def validRecord {α : Type} : Judged α → Option α
  | .valid r => some r
  | .blank | .damaged => none

/-- Whether a judged place is damaged, which raises STORE (R163). -/
def isDamaged {α : Type} : Judged α → Bool
  | .damaged => true
  | .blank | .valid _ => false

/-- The account a damaged place loads: SUSPENDED, empty and marked damaged (R139). -/
def damagedAccount (number : Nat) : Account :=
  { number := number, suspended := true, allowance := 0, warn := 0, spent := 0, held := 0, damaged := true }

/-- What one account place offers its slot (R139). -/
def accountOf (image : List Byte) : Option Account :=
  match judge readAccount image with
  | .blank => none
  | .valid a => some a
  | .damaged => (readableNumber image).map damagedAccount

/-- The slots the account places load, in ascending order: a number already loaded gives a free slot (R139). -/
def loadSlots (seen : List Nat) : List (List Byte) → List (Option Account)
  | [] => []
  | image :: rest =>
    match accountOf image with
    | none => none :: loadSlots seen rest
    | some a => if seen.contains a.number then none :: loadSlots seen rest
                else some a :: loadSlots (a.number :: seen) rest

/-- Whether an account place is damaged or repeats a number already loaded, either of which raises STORE (R139). -/
def slotsRaiseStore (seen : List Nat) : List (List Byte) → Bool
  | [] => false
  | image :: rest =>
    isDamaged (judge readAccount image) ||
      match accountOf image with
      | none => slotsRaiseStore seen rest
      | some a => if seen.contains a.number then true else slotsRaiseStore (a.number :: seen) rest

/-- The place of a number. -/
def SettingsStore.place (t : SettingsStore) (p : Nat) : List Byte := t.places.getD p (erasedPlace p)

/-- The film kinds the store loads (R44). -/
def SettingsStore.loadedFilms (t : SettingsStore) : List (Option FilmKind) :=
  [1, 2, 3, 4].map fun p => validRecord (judge readFilmKind (t.place p))

/-- The account places, 6 to 37. -/
def SettingsStore.accountPlaces (t : SettingsStore) : List (List Byte) :=
  (List.range Config.accountSlots).map fun n => t.place (6 + n)

/-- Whether a load raises STORE (R163). -/
def SettingsStore.loadRaisesStore (t : SettingsStore) : Bool :=
  isDamaged (judge readCalibration (t.place 0)) ||
    [1, 2, 3, 4].any (fun p => isDamaged (judge readFilmKind (t.place p))) ||
    isDamaged (judge readRateCard (t.place 5)) || slotsRaiseStore [] t.accountPlaces

end Sys2Proof.Machine
end

