-- ==== Sys2Proof/Machine/Ops.lean ====
section
/-! DEFINITION. The operations the blocks share: raising notices, the write engine, holds and charges, order and roll
records, the lamp, advances, and the course of the active order. Each cites the rule it follows; the meanings of the
families are made of these. -/

namespace Sys2Proof.Machine

/-! ## Notices (R189) -/

/-- A block raises a notice: its kind joins the pending set. -/
def State.raise (s : State) (n : Notice) : State :=
  s.withNotices { s.notices with pending := s.notices.pending ||| n.bit }

/-! ## The write engine (R165, R166) -/

/-- The lowest-numbered dirty place. -/
def SettingsStore.lowestDirty (t : SettingsStore) : Option Nat := t.dirty.findIdx? (· = true)

/-- Whether the engine may begin a write: it is IDLE, no load is under way (R163) and no RESET is pending (R169). -/
def State.engineFree (s : State) : Bool :=
  s.store.engine = none && s.power.phase = .listening && !s.store.resetPending

/-- An IDLE engine takes the lowest-numbered dirty place at once: snapshot, dirty mark to no, WRITING (R166). -/
def State.startWrite (s : State) : State :=
  match s.engineFree, s.store.lowestDirty with
  | true, some p => s.withStore { s.store with dirty := s.store.dirty.set p false, engine := some ⟨p, s.image p, 0⟩ }
  | _, _ => s

/-- A place is marked dirty at the moment its change is applied (R165). -/
def State.markDirty (s : State) (place : Nat) : State :=
  (s.withStore { s.store with dirty := s.store.dirty.set place true }).startWrite

/-! ## Accounts -/

/-- Whether a slot holds the account of a number. -/
def slotHolds (number : Nat) (slot : Option Account) : Bool := slot.any fun a => a.number = number

/-- The account of a number. -/
def State.findAccount (s : State) (number : Nat) : Option Account :=
  (s.accounts.slots.find? (slotHolds number)).join

/-- The slot of an account number. -/
def State.slotOf (s : State) (number : Nat) : Option Nat := s.accounts.slots.findIdx? (slotHolds number)

/-- A change of the record of one account. -/
def State.mapAccount (s : State) (number : Nat) (f : Account → Account) : State :=
  s.withAccounts
    { s.accounts with slots := s.accounts.slots.map fun slot => if slotHolds number slot then slot.map f else slot }

/-- The place of an account's slot becomes dirty (R139, R165). -/
def State.markAccount (s : State) (number : Nat) : State :=
  match s.slotOf number with
  | some slot => s.markDirty (6 + slot)
  | none => s

/-- ACCOUNT_LOW is raised when the low mark goes from no to yes (R152). -/
def State.noteLow (s : State) (before after : Bool) : State :=
  if !before && after then s.raise .accountLow else s

/-- A change of the amounts of the account of a number: its place becomes dirty when spent changes (R146), the low mark
is worked out afresh (R152), and without such an account nothing changes (R150, R151). -/
def State.changeAccount (s : State) (number : Nat) (f : Account → Account) : State :=
  match s.findAccount number with
  | none => s
  | some a =>
    let changed := s.mapAccount number f
    let marked := if (f a).spent ≠ a.spent then changed.markAccount number else changed
    marked.noteLow a.low (f a).low

/-! ## Order records -/

/-- The order of an id. -/
def State.findOrder (s : State) (id : Nat) : Option Order := s.orders.table.find? fun o => o.id = id

/-- A change of the record of one order. -/
def State.mapOrder (s : State) (id : Nat) (f : Order → Order) : State :=
  s.withOrders { s.orders with table := s.orders.table.map fun o => if o.id = id then f o else o }

/-- The active order: the one the active-order mark names (R3). -/
def State.activeOrder (s : State) : Option Order := s.orders.active.bind s.findOrder

/-- The plan entry of the order's next step (R12). -/
def Order.nextEntry (o : Order) : PlanEntry := (o.plan.getD []).getD (o.nextStep - 1) .zero

/-- The progress after one frame reached its outcome (R2). -/
def Order.progress (o : Order) (roll frame : Nat) (spoiled : Bool) : Order :=
  let turned := o.nextCopy + 1 > o.copies
  { o with
    taken := o.taken ++ [(roll, frame)]
    exposed := if spoiled then o.exposed else o.exposed + 1
    spoiled := if spoiled then o.spoiled + 1 else o.spoiled
    nextCopy := if turned then 1 else o.nextCopy + 1
    nextStep := if turned then o.nextStep + 1 else o.nextStep }

/-! ## Holds, postings, releases and refunds (R146 to R150) -/

/-- The parts of an order's hold (R145). -/
inductive HoldPart where
  | setup | frame | label
  deriving DecidableEq, Repr

/-- What remains of a part. -/
def Order.hold (o : Order) : HoldPart → Nat
  | .setup => o.setupHold
  | .frame => o.frameHold
  | .label => o.labelHold

/-- A part after an amount has left it. -/
def Order.lowerHold (o : Order) (part : HoldPart) (amount : Nat) : Order :=
  match part with
  | .setup => { o with setupHold := o.setupHold - amount }
  | .frame => { o with frameHold := o.frameHold - amount }
  | .label => { o with labelHold := o.labelHold - amount }

/-- A posting or a release as one change (R146): the order's part and the account's held fall by the amount, and for a
posting spent rises by it. It never takes more than the part holds (R149, log 15). -/
def State.moveHold (s : State) (id : Nat) (part : HoldPart) (amount : Nat) (posted : Bool) : State :=
  match s.findOrder id with
  | none => s
  | some o =>
    let moved := min amount (o.hold part)
    (s.mapOrder id fun o => o.lowerHold part moved).changeAccount o.account fun a =>
      { a with held := a.held - moved, spent := if posted then a.spent + moved else a.spent }

/-- A posting (R147). -/
def State.post (s : State) (id : Nat) (part : HoldPart) (amount : Nat) : State := s.moveHold id part amount true

/-- A release (R148). -/
def State.release (s : State) (id : Nat) (part : HoldPart) (amount : Nat) : State := s.moveHold id part amount false

/-- A refund to an account number: spent falls by the charge, or to 0 (R150). -/
def State.refund (s : State) (number charge : Nat) : State :=
  s.changeAccount number fun a => { a with spent := a.spent - charge }

/-- Labels outstanding of an order falls. -/
def State.oweFewerLabels (s : State) (id count : Nat) : State :=
  s.mapOrder id fun o => { o with labelsOutstanding := o.labelsOutstanding - count }

/-- A frame of an order was rejected or fogged: an order in the table that wants labels owes one label fewer and
releases its label rate; any other report changes no order (R110, R112). -/
def State.giveUpLabel (s : State) (id : Nat) : State :=
  match s.findOrder id with
  | none => s
  | some o => if o.labels then (s.oweFewerLabels id 1).release id .label o.labelRate else s

/-! ## Finishing and pausing an order (R18, R24) -/

/-- An order's finish, in the order of R24: state and cancel mark; the unmade frames' releases; the unused setup; the
active-order mark; the last finished order id and ORDER_FINISHED. -/
def State.finishOrder (s : State) (id : Nat) (final : OrderState) : State :=
  match s.findOrder id with
  | none => s
  | some o =>
    let named := s.mapOrder id fun o => { o with state := final, cancelRequested := false }
    let frames := named.release id .frame (o.unmade * o.frameRate)
    let labels := if o.labels then (frames.release id .label (o.unmade * o.labelRate)).oweFewerLabels id o.unmade
                  else frames
    let setup := if o.exposed = 0 then labels.release id .setup o.setupFee else labels
    let unmarked := if setup.orders.active = some id then setup.withOrders { setup.orders with active := none }
                    else setup
    (unmarked.withNotices { unmarked.notices with lastFinished := id }).raise .orderFinished

/-- An order enters PAUSED (R18). -/
def State.pauseOrder (s : State) (id : Nat) (reason : PauseReason) : State :=
  (s.mapOrder id fun o => { o with state := .paused reason }).raise .orderPaused

/-! ## Roll records -/

/-- The roll of a number. -/
def State.findRoll (s : State) (number : Nat) : Option Roll := s.rolls.find? fun r => r.number = number

/-- A change of the record of one roll. -/
def State.mapRoll (s : State) (number : Nat) (f : Roll → Roll) : State :=
  s.withRolls (s.rolls.map fun r => if r.number = number then f r else r)

/-- A change of the record of the roll in camera. -/
def State.mapRollInCamera (s : State) (f : Roll → Roll) : State :=
  match s.transport.roll with
  | some n => s.mapRoll n f
  | none => s

/-- The usable frames of the roll in camera. -/
def State.usableFrames (s : State) : Nat :=
  ((s.transport.roll.bind s.findRoll).map Roll.usable).getD 0

/-- A BLANK frame entry. -/
def Frame.blank : Frame :=
  { state := .blank, order := 0, account := 0, step := 0, copy := 0, offset := 0, stop := 0, lamp := 0, time := 0,
    flags := .clear, charge := 0 }

/-- The entry of a frame of an order at its next step and copy, with the figures of the plan entry (R105, R106). -/
def Order.frameEntry (o : Order) (state : FrameState) (charge : Nat) : Frame :=
  let e := o.nextEntry
  { state := state, order := o.id, account := o.account, step := o.nextStep, copy := o.nextCopy, offset := e.offset,
    stop := e.stop, lamp := e.step, time := e.time, flags := e.flags, charge := charge }

/-- A frame entry of a roll is written. -/
def Roll.writeFrame (r : Roll) (frame : Nat) (entry : Frame) : Roll :=
  if frame = 0 then r else { r with frames := r.frames.set (frame - 1) entry }

/-- The frame entry of a frame number, if the roll has one. -/
def Roll.frame (r : Roll) (n : Nat) : Option Frame := if n = 0 then none else r.frames[n - 1]?

/-- The outcome of the current frame of the roll in camera is recorded for an order (R105, R106). -/
def State.recordFrame (s : State) (o : Order) (state : FrameState) (charge : Nat) : State :=
  s.mapRollInCamera fun r => r.writeFrame s.transport.currentFrame (o.frameEntry state charge)

/-! ## The lamp (R63, R69) -/

/-- The lamp step the lamp is lit at. -/
def Lamp.step : Lamp → Option Nat
  | .off => none
  | .settling k | .lit k => some k

/-- Heat used after the lamp leaves its step (R69). -/
def ExposureUnit.heatAfter (e : ExposureUnit) : Nat :=
  match e.lamp.step with
  | none => e.heatUsed
  | some k => min Config.maxHeat (e.heatUsed + heatOf e.litTime k)

/-- The lamp is lit at a step for a purpose, the shutter closed through its settle (R63, section 4.1). -/
def State.lightLamp (s : State) (step : Nat) (purpose : Purpose) : State :=
  s.withExposure
    { s.exposure with
      state := .settle, lamp := .settling step, levelCode := s.calibration.code step, lampEnable := true
      shutterOpen := false, purpose := some purpose, litTime := 0 }

/-- The end of a lighting: the shutter closes if it is open, the lamp goes out with the heat of its step accrued, and
the unit returns to IDLE (R63, R65, R72, R73). -/
def State.endLighting (s : State) : State :=
  s.withExposure
    { s.exposure with
      state := .idle, lamp := .off, levelCode := 0, lampEnable := false, shutterOpen := false
      heatUsed := s.exposure.heatAfter, purpose := none, litTime := 0 }

/-- The lit time of the step is set to the length an event stands for (log 1). -/
def State.litFor (s : State) (ms : Nat) : State := s.withExposure { s.exposure with litTime := ms }

/-- The heat check (R70): whether a lighting of a cost may be taken. -/
def State.heatAllows (s : State) (cost : Nat) : Bool := s.exposure.heatUsed + cost ≤ s.calibration.heatLimit

/-! ## The Metering Unit -/

/-- The unit stops converting and returns to IDLE. -/
def State.meterIdle (s : State) : State :=
  s.withMetering { s.metering with state := .idle, test := none, calibrating := none, watchGroups := 0 }

/-- The last metering record is written whole and its fresh mark set (R32). -/
def State.writeRecord (s : State) (r : MeterRecord) : State :=
  s.withMetering { s.metering with record := r, fresh := true }

/-- REFm: the REF average as used of the last metering record (R32, R34). -/
def MeterRecord.refUsed : MeterRecord → Nat
  | .order _ _ a _ => usedAverage a.ref
  | .test _ _ _ (some a) _ _ => usedAverage a.ref
  | .calibration _ _ (some a) _ _ => usedAverage a.ref
  | .none | .test _ _ _ .none _ _ | .calibration _ _ .none _ _ => 1

/-- The measured step offsets of the reference passes that ended (R38). -/
def CalibrationResults.offsets (r : CalibrationResults) : List Int :=
  match r.first with
  | none => []
  | some a => r.references.map (measuredOffset a.ref)

/-- The stages that ended (R40). -/
def CalibrationResults.stages (r : CalibrationResults) : Nat := (if r.first.isSome then 1 else 0) + r.references.length

/-- The record of a calibration (R39, R40). -/
def CalibrationResults.record (r : CalibrationResults) (outcome : PassOutcome) : MeterRecord :=
  .calibration outcome r.stages r.first r.references r.offsets

/-- METERING_DONE is raised when an abandonment was caused by the gate, and not when a Restart caused it (R40, R42). -/
def State.noteAbandoned (s : State) (byGate : Bool) : State := if byGate then s.raise .meteringDone else s

/-- A pass for the active order is abandoned: the lamp goes out, nothing is written or reported (R31, R73). -/
def State.abandonPass (s : State) : State := s.endLighting.meterIdle

/-- A Meter Test is abandoned (R42, R73). -/
def State.abandonTest (s : State) (byGate : Bool) : State :=
  let dark := s.endLighting
  match dark.metering.test with
  | none => dark.meterIdle
  | some t => ((dark.writeRecord (.test .abandoned t.filmKind t.offset none none none)).meterIdle).noteAbandoned byGate

/-- A calibration is abandoned (R40, R73). -/
def State.abandonCalibration (s : State) (byGate : Bool) : State :=
  let dark := s.endLighting
  match dark.metering.calibrating with
  | none => dark.meterIdle
  | some r => ((dark.writeRecord (r.record .failed)).meterIdle).noteAbandoned byGate

/-- A Calibrate Lamp or a Meter Test is under way, from its acceptance to its end (R6). -/
def State.measuring (s : State) : Bool := s.metering.test.isSome || s.metering.calibrating.isSome

/-! ## Advances (R90, R91) -/

/-- The frame just used was the last usable frame of the roll (R90). -/
def State.atLastFrame (s : State) : Bool := s.usableFrames ≤ s.transport.currentFrame

/-- A motor operation starts (R86). -/
def TransportUnit.startMotor (t : TransportUnit) (state : TransportState) (motor : Motor) : TransportUnit :=
  { t with state := state, motor := motor, pulseCount := 0, pulseSeen := false, quietTime := 0 }

/-- An advance is asked for by an order (R90, R91). -/
def State.requestAdvance (s : State) (id : Nat) : State :=
  if s.atLastFrame then (s.withTransport { s.transport with state := .atEnd }).raise .rollEnd
  else s.withTransport { s.transport.startMotor .advancing .forward with advanceFor := some id }

/-! ## The course of the active order -/

/-- An exposure is under way (section 4.6). -/
def State.exposureUnderWay (s : State) : Bool :=
  match s.exposure.purpose with
  | some (.exposure _ _) => true
  | _ => false

/-- An aborted exposure spoils its frame (R14): the entry, the releases, the progress, and the advance past it unless
the abort was caused by magazine removal. What its outcome reports changes no order (R14, R15, log 16). -/
def State.spoilFrame (s : State) (advance : Bool) : State :=
  match s.activeOrder with
  | none => s
  | some o =>
    let recorded := s.recordFrame o .spoiled 0
    let frames := recorded.release o.id .frame o.frameRate
    let labels := if o.labels then (frames.release o.id .label o.labelRate).oweFewerLabels o.id 1 else frames
    let moved := labels.mapOrder o.id fun p =>
      p.progress (s.transport.roll.getD 0) s.transport.currentFrame true
    if advance then moved.requestAdvance o.id else moved

/-- An exposure is aborted (R72): shutter, watch, lamp, IDLE, and its frame is spoiled. -/
def State.abortExposure (s : State) (advance : Bool) : State := (s.endLighting.meterIdle).spoilFrame advance

/-- The lighting of the active order ends for a cause that takes its work away: an exposure is aborted, a pass
abandoned (R72, R73). A lighting for a test or a calibration is no order's. -/
def State.dropOrderLighting (s : State) (advance : Bool) : State :=
  match s.exposure.purpose with
  | some (.exposure _ _) => s.abortExposure advance
  | some .orderPass => s.abandonPass
  | some .testPass | some .calibration | none => s

/-- The active order waits for its final advance: it is EXPOSING and every planned frame has an outcome (R17). -/
def Order.finalAdvance (o : Order) : Bool := o.state = .exposing && o.unmade = 0

/-- A cause cuts the active order short, with its lighting ended first. `spared`: the cause leaves an order that waits
for its final advance alone (R17); `advance`: a frame it spoils is advanced past (R14, R20, R22, R23). -/
def State.cutShort (s : State) (reason : FinishReason) (spared advance : Bool) : State :=
  match s.activeOrder with
  | none => s
  | some o => if spared && o.finalAdvance then s
              else (s.dropOrderLighting advance).finishOrder o.id (.cutShort reason)

/-- The next frame of an order begins (R12): the heat check, then the exposure at its plan entry's step and time. -/
def State.beginFrame (s : State) (id : Nat) : State :=
  match s.findOrder id with
  | none => s
  | some o =>
    let e := o.nextEntry
    if s.heatAllows e.heat then s.lightLamp e.step (.exposure e.step e.time)
    else s.finishOrder id (.cutShort .heatLimit)

/-- An advance's outcome reaches the order that asked for it (R15, R16): it acts only on an order in EXPOSING. `moved`
tells advance completion from roll end and stall. -/
def State.advanceOutcome (s : State) (id : Nat) (moved : Bool) : State :=
  match s.findOrder id with
  | none => s
  | some o =>
    if o.state ≠ .exposing then s
    else if o.unmade = 0 then s.finishOrder id .done
    else if o.cancelRequested then s.finishOrder id .cancelled
    else if moved then s.beginFrame id
    else s.pauseOrder id .roll

/-- An exposure of the active order completes (R13): the frame, its postings, the progress, the advance; roll end by
count is reported at once (R90). -/
def State.completeExposure (s : State) : State :=
  match s.activeOrder with
  | none => s
  | some o =>
    let recorded := s.recordFrame o .exposed o.frameRate
    let charged := recorded.post o.id .frame o.frameRate
    let setup := if o.exposed = 0 then charged.post o.id .setup o.setupFee else charged
    let moved := setup.mapOrder o.id fun p =>
      p.progress (s.transport.roll.getD 0) s.transport.currentFrame false
    if moved.atLastFrame then (moved.requestAdvance o.id).advanceOutcome o.id false else moved.requestAdvance o.id

/-- A pass for the active order that found the lamp good: the plan entries of the remaining steps are replaced and the
order enters EXPOSING (R11, R48). -/
def State.planOrder (s : State) (o : Order) (a : Averages) : State :=
  match s.films.getD o.filmKind none with
  | none => s
  | some f =>
    let kept := (o.plan.getD []).take (o.nextStep - 1)
    let made := (o.offsets.drop (o.nextStep - 1)).map (planEntry s.calibration f a)
    s.mapOrder o.id fun p => { p with plan := some (kept ++ made), state := .exposing }

/-! ## Stop and Start -/

/-- A Stop, however it came (R17, R20). -/
def State.takeStop (s : State) : State := s.cutShort .stopped true true

/-- A QUEUED order that qualifies (R8). -/
def State.qualifies (s : State) (o : Order) : Bool :=
  o.state = .queued && s.transport.loadedKind = some o.filmKind &&
    (s.findAccount o.account).any fun a => !a.suspended

/-- The conditions of R7 and R8 that Start checks after the order is known: gate, then calibration. -/
def State.startConditions (s : State) : StartRefusal :=
  if !s.exposure.gate.reading then .noSlide
  else if !s.calibration.calibrated then .uncalibrated
  else .none

/-- What a Start finds: the order it takes, and the refusal reason, `none` when it is taken (R6, R7, R8). -/
def State.startDecision (s : State) : Nat × StartRefusal :=
  if s.measuring then (0, .busy)
  else match s.activeOrder with
    | some o =>
      match o.state with
      | .paused _ =>
        (o.id, if s.transport.state ≠ .ready then .noFilm
               else if s.transport.loadedKind ≠ some o.filmKind then .kindMismatch
               else s.startConditions)
      | _ => (0, .busy)
    | none =>
      if s.transport.state ≠ .ready then (0, .noFilm)
      else match s.orders.table.find? s.qualifies with
        | none => (0, .noOrder)
        | some o => (o.id, s.startConditions)

/-- A Start is taken (R10): the mark, METERING, and the pass after its heat check. -/
def State.beginOrder (s : State) (id : Nat) : State :=
  let marked := (s.withOrders { s.orders with active := some id }).mapOrder id fun o => { o with state := .metering }
  if marked.heatAllows (passHeat marked.calibration) then marked.lightLamp 0 .orderPass
  else marked.finishOrder id (.cutShort .heatLimit)

/-! ## Printing (R122 to R126) -/

/-- A decimal digit. -/
def digit (n : Nat) : Byte := BitVec.ofNat 8 (48 + n % 10)

/-- The bracket mark of an offset, four characters (R126). -/
def bracketMark (offset : Int) : Text :=
  let size := offset.natAbs
  let sign : Byte := if offset > 0 then 43 else if offset < 0 then 45 else 32
  [sign, digit (size / 8), 46, digit ((size % 8 * 10 + 4) / 8)]

/-- Line 3 of a label (R125). -/
def labelLine3 (date : Text) (roll frame : Nat) (offset : Int) : Text :=
  date ++ [32] ++ [digit (roll / 10000), digit (roll / 1000), digit (roll / 100), digit (roll / 10), digit roll] ++
    [45] ++ [digit (frame / 10), digit frame] ++ [32] ++ bracketMark offset

/-- A label from its sources: three lines, each with a line feed, then a form feed (R123, R124). -/
def labelBytes (mark catalogue title date : Text) (roll frame : Nat) (offset : Int) : List Byte :=
  mark ++ [32] ++ catalogue ++ [10] ++ title.take 24 ++ [10] ++ labelLine3 date roll frame offset ++ [10, 12]

/-- The processing date of a roll, present in KEEP_REPORTED only. -/
def RollState.date : RollState → Text
  | .keepReported d => d
  | .inCamera | .out | .fogged => []

/-- The label of a queue entry (R123 to R126). -/
def State.composeLabel (s : State) (e : LabelEntry) : List Byte :=
  let order := s.findOrder e.order
  let roll := s.findRoll e.roll
  labelBytes (s.labels.mark.getD []) ((order.map Order.catalogue).getD []) ((order.map Order.title).getD [])
    ((roll.map fun r => r.state.date).getD []) e.roll e.frame
    (((roll.bind fun r => r.frame e.frame).map Frame.offset).getD 0)

/-- A look at PRN_BUSY while the byte in turn awaits its place on the data lines (R127, R128, log 34): low, the byte is
placed, its strobe given and released, and the wait starts again; high, it is waited for. -/
def LabelUnit.offer (l : LabelUnit) : LabelUnit :=
  match l.printer, l.strobed with
  | .sending label index, false =>
    let low := Config.busyLow l.looks
    { l with
      looks := l.looks + 1, strobed := low, wait := if low then 0 else l.wait
      dataLines := if low then label.getD index 0 else l.dataLines }
  | _, _ => l

/-- A label begins to be sent (R122): the next byte is the first, the wait starts at 0 with the data lines low, and the
first look at PRN_BUSY follows. -/
def LabelUnit.beginLabel (l : LabelUnit) (label : List Byte) : LabelUnit :=
  LabelUnit.offer { l with printer := .sending label 0, wait := 0, dataLines := 0, strobed := false }

/-- Printing of the head entry begins at once when the printer is IDLE and the queue is not empty (R122). -/
def State.beginPrinting (s : State) : State :=
  match s.labels.printer, s.labels.queue with
  | .idle, e :: _ => s.withLabels (s.labels.beginLabel (s.composeLabel e))
  | _, _ => s

/-- The printer leaves SENDING or FEEDING, or stands idle, for another state; a label in print is abandoned: sending
and the wait stop, the data lines go low, its queue entry stays (R133). -/
def LabelUnit.enter (l : LabelUnit) (p : Printer) : LabelUnit :=
  { l with printer := p, wait := 0, dataLines := 0, strobed := false }

/-- The printer state that the printer's lines give (R137, R138). -/
def LabelUnit.fromLines (l : LabelUnit) : Printer :=
  if !l.faultHigh then .faulted .faultLine else if !l.stockHigh then .stockOut else .idle

/-- A stock-out, fault or timeout of the printer: it acts in IDLE, SENDING and FEEDING and raises PRINTER; in STOCK_OUT
and FAULTED nothing changes (R128, R129, R131, R132). -/
def State.printerFails (s : State) (p : Printer) : State :=
  match s.labels.printer with
  | .stockOut | .faulted _ => s
  | .idle | .sending _ _ | .feeding _ _ => (s.withLabels (s.labels.enter p)).raise .printer

/-! ## Switches -/

/-- A switch level changes: the count of the new level begins, or ends when the level has returned to the reading
(R67, R141, R195). A level that is the present one is no change. -/
def Debounce.change (d : Debounce) (level : Bool) : Debounce :=
  if level = d.level then d
  else { d with level := level, count := if level = d.reading then none else some 0 }

/-- A switch level changes while nothing is read: without power or under RESET. -/
def Debounce.unread (d : Debounce) (level : Bool) : Debounce := { d with level := level, count := none }

/-- The held level becomes the reading. -/
def Debounce.taken (d : Debounce) : Debounce := { d with reading := d.level, count := none }

/-- A RESET: the reading is the open one, and nothing is counted. -/
def Debounce.cleared (d : Debounce) : Debounce := { d with reading := false, count := none }

/-- The end of the reset: a closed switch is counted from now (R67, R141, R195). -/
def Debounce.afresh (d : Debounce) : Debounce := { d with count := if d.level then some 0 else none }

/-- The part has power and is not held by RESET: its inputs and units run (R164, R170). -/
def State.running (s : State) : Bool := s.power.phase = .loading || s.power.phase = .listening

end Sys2Proof.Machine
end

