-- ==== Sys2Proof/Machine/Operands.lean ====
section
/-! DEFINITION. Every operand form of the requests: the length a body must have (R184, R200), the fields a body is read
as (R197, R198, 12.4), their ranges, and the shape of an answer. -/

namespace Sys2Proof.Machine

/-- The answer to a request: its result code and reply body (R181). -/
structure Reply where
  result : Result
  body   : List Byte
  deriving DecidableEq, Repr

/-- A refusal without a body (R201). -/
def Reply.refusal (r : Result) : Reply := ⟨r, []⟩

/-- A refusal that changes no state. -/
def State.refuse (s : State) (r : Result) : Reply × State := (.refusal r, s)

/-- A request taken and complete. -/
def State.answer (s : State) (body : List Byte) : Reply × State := (⟨.done, body⟩, s)

/-- A request taken, its end reported by notice. -/
def State.accept (s : State) (body : List Byte) : Reply × State := (⟨.accepted, body⟩, s)

/-! ## Lengths -/

/-- Set Library Mark: 1 + n (R200). -/
def markLengthOk (b : List Byte) : Bool := b.length ≥ 1 && b.length = 1 + byteAt b 0

/-- Submit Order: 10 + n + c + t, each count at a place the body reaches (R200). -/
def submitLengthOk (b : List Byte) : Bool :=
  let n := byteAt b 7
  let c := byteAt b (8 + n)
  let t := byteAt b (9 + n + c)
  b.length > 7 && b.length > 8 + n && b.length > 9 + n + c && b.length = 10 + n + c + t

/-- Keep Report: 4 + d + m, each count at a place the body reaches (R200). -/
def keepLengthOk (b : List Byte) : Bool :=
  let d := byteAt b 2
  let m := byteAt b (3 + d)
  b.length > 2 && b.length > 3 + d && b.length = 4 + d + m

/-- The body length of the kinds whose length is fixed (12.3). -/
def fixedLength (kind : Nat) : Option Nat :=
  if [kindStatus, kindRestart, kindStop, kindStart, kindRewind, kindReadStandCalibration, kindCalibrateLamp,
      kindReadMetering, kindLabelStatus, kindResumePrinter, kindReadRates].contains kind then some 0
  else if kind = kindReadFilmKind then some 1
  else if [kindSetNoticeEnable, kindClearNoticeEnable, kindClearNotices, kindCancelOrder, kindOrderReport,
      kindRetireOrder, kindCloseRoll, kindMeterTest, kindAccountReport, kindCloseAccount,
      kindResetPeriod].contains kind then some 2
  else if [kindDeclareRoll, kindRollReport].contains kind then some 3
  else if kind = kindSetFilmKind then some 8
  else if kind = kindSetAccount then some 11
  else if [kindSetStandCalibration, kindSetRates].contains kind then some 12
  else none

/-- The kinds whose length their own counts imply (R200). -/
def hasImpliedLength (kind : Nat) : Bool := [kindSetLibraryMark, kindSubmitOrder, kindKeepReport].contains kind

/-- Whether a kind is a request kind (R184). -/
def isRequestKind (kind : Nat) : Bool := (fixedLength kind).isSome || hasImpliedLength kind

/-- Whether a body has the length its kind requires (R184). -/
def lengthOk (kind : Nat) (b : List Byte) : Bool :=
  if kind = kindSetLibraryMark then markLengthOk b
  else if kind = kindSubmitOrder then submitLengthOk b
  else if kind = kindKeepReport then keepLengthOk b
  else fixedLength kind = some b.length

/-! ## Fields -/

/-- The set of a notice request (R199). -/
def noticeSetAt (b : List Byte) : NoticeSet := BitVec.ofNat 16 (pairAt b 0)

/-- The fields of a Submit Order (12.4), as received. -/
structure SubmitFields where
  id         : Nat
  account    : Nat
  filmKind   : Nat
  copies     : Nat
  labelsCode : Nat
  offsets    : List Int
  catalogue  : Text
  title      : Text
  deriving DecidableEq, Repr

/-- A Submit Order body of the right length, read (12.4). -/
def readSubmit (b : List Byte) : SubmitFields :=
  let n := byteAt b 7
  let c := byteAt b (8 + n)
  let t := byteAt b (9 + n + c)
  { id := pairAt b 0, account := pairAt b 2, filmKind := byteAt b 4, copies := byteAt b 5, labelsCode := byteAt b 6
    offsets := (bytesAt b 8 n).map BitVec.toInt
    catalogue := bytesAt b (9 + n) c, title := bytesAt b (10 + n + c) t }

/-- The ranges of a Submit Order (R4). -/
def SubmitFields.inRange (f : SubmitFields) : Bool :=
  f.id ≠ 0 && 1 ≤ f.account && f.account ≤ Config.maxAccount && f.filmKind ≤ 3 &&
    1 ≤ f.catalogue.length && f.catalogue.length ≤ 14 && f.title.length ≤ 32 &&
    1 ≤ f.offsets.length && f.offsets.length ≤ 5 && f.offsets.all (fun o => -24 ≤ o && o ≤ 24) &&
    1 ≤ f.copies && f.copies ≤ 3 && f.labelsCode ≤ 1

/-- The fields of a Keep Report (12.4), as received. -/
structure KeepFields where
  roll : Nat
  date : Text
  kept : List Nat
  deriving DecidableEq, Repr

/-- A Keep Report body of the right length, read (12.4). -/
def readKeep (b : List Byte) : KeepFields :=
  let d := byteAt b 2
  let m := byteAt b (3 + d)
  { roll := pairAt b 0, date := bytesAt b 3 d, kept := (bytesAt b (4 + d) m).map BitVec.toNat }

/-- The ranges of a Keep Report (R111). -/
def KeepFields.inRange (f : KeepFields) : Bool :=
  f.roll ≠ 0 && f.date.length = 6 && f.kept.length ≤ 40 && f.kept.all (fun n => 1 ≤ n && n ≤ 40)

/-- The settings of a Set Stand Calibration body put into a calibration record (12.4, R75). -/
def withSettings (c : StandCalibration) (b : List Byte) : StandCalibration :=
  { c with
    heatLimit := pairAt b 0, settle := pairAt b 2, c0 := byteAt b 4, c1 := byteAt b 5, c2 := byteAt b 6
    c3 := byteAt b 7, tmin := pairAt b 8, tmax := pairAt b 10 }

/-- The fields of a Set Account (12.4): the record of a new account of those values. -/
def accountFields (b : List Byte) : Account :=
  { number := pairAt b 0, suspended := byteAt b 2 = 1, allowance := quadAt b 3, warn := quadAt b 7, spent := 0,
    held := 0, damaged := false }

/-! ## Shared parts of reply bodies -/

/-- A plan entry of nine bytes (12.5). -/
def PlanEntry.report (e : PlanEntry) : List Byte :=
  signedByteField e.offset ++ signedPairField e.stop ++ byteField e.step ++ pairField e.time ++
    byteField e.flags.byte ++ pairField e.heat

end Sys2Proof.Machine
end

