-- ==== Sys2Proof/Machine/Accounts.lean ====
section
/-! DEFINITION. The Account Table's requests (chapter 8): Set Account, Account Report, Close Account, Reset Period, Set
Rates and Read Rates. -/

namespace Sys2Proof.Machine

/-- The body of an Account Report of one account (R158, 12.5). -/
def Account.report (a : Account) (slot : Nat) : List Byte :=
  byteField slot ++ pairField a.number ++ flagField a.suspended ++ quadField a.allowance ++ quadField a.warn ++
    quadField a.spent ++ quadField a.held ++ quadField a.available ++ flagField a.low ++ flagField a.damaged

/-- One slot of the summary (12.5). -/
def slotSummary (slot : Option Account) : List Byte :=
  match slot with
  | none => pairField 0 ++ byteField 0
  | some a => pairField a.number ++ byteField a.flagByte

/-- The slots with one of them replaced. -/
def State.withSlot (s : State) (slot : Nat) (a : Option Account) : State :=
  s.withAccounts { s.accounts with slots := s.accounts.slots.set slot a }

/-- A slot takes a record by Set Account: its place is dirty and the low mark is worked out (R152, R154, R155). -/
def State.storeAccount (s : State) (slot : Nat) (a : Account) (wasLow : Bool) : Reply × State :=
  (((s.withSlot slot (some a)).markDirty (6 + slot)).noteLow wasLow a.low).answer (a.report slot)

/-- Set Account (R154, R155). -/
def serveSetAccount (body : List Byte) (s : State) : Reply × State :=
  let f := accountFields body
  if f.number = 0 || f.number > Config.maxAccount || byteAt body 2 > 1 || f.allowance > Config.maxMoney ||
      f.warn > Config.maxMoney then s.refuse .outOfRange
  else match s.findAccount f.number, s.slotOf f.number with
    | some a, some slot =>
      if f.allowance < a.spent + a.held then s.refuse .belowCommitted
      else s.storeAccount slot
        { a with suspended := f.suspended, allowance := f.allowance, warn := f.warn, damaged := false } a.low
    | _, _ =>
      match s.accounts.slots.findIdx? (·.isNone) with
      | none => s.refuse .tableFull
      | some slot => s.storeAccount slot f false

/-- Account Report (R158): number 0 asks for the summary of all slots. -/
def serveAccountReport (body : List Byte) (s : State) : Reply × State :=
  let number := pairAt body 0
  if number > Config.maxAccount then s.refuse .outOfRange
  else if number = 0 then s.answer (s.accounts.slots.flatMap slotSummary)
  else match s.findAccount number, s.slotOf number with
    | some a, some slot => s.answer (a.report slot)
    | _, _ => s.refuse .noSuch

/-- Close Account (R156): the slot is free and its place dirty, to be written blank. -/
def serveCloseAccount (body : List Byte) (s : State) : Reply × State :=
  let number := pairAt body 0
  if number = 0 || number > Config.maxAccount then s.refuse .outOfRange
  else match s.findAccount number, s.slotOf number with
    | some a, some slot =>
      if a.held ≠ 0 then s.refuse .wrongState
      else ((s.withSlot slot none).markDirty (6 + slot)).answer (quadField a.spent)
    | _, _ => s.refuse .noSuch

/-- The accounts in the table. -/
def AccountTable.accounts (t : AccountTable) : List Account := t.slots.filterMap id

/-- Spent becomes 0 for accounts of these numbers, one after the other (R157). -/
def State.resetSpent (s : State) (numbers : List Nat) : State :=
  numbers.foldl (fun t n => t.changeAccount n fun a => { a with spent := 0 }) s

/-- Reset Period (R157): the reply carries the accounts reset. -/
def serveResetPeriod (body : List Byte) (s : State) : Reply × State :=
  let number := pairAt body 0
  if number > Config.maxAccount then s.refuse .outOfRange
  else if !s.accounts.key.reading then s.refuse .keyOff
  else if number = 0 then
    (s.resetSpent (s.accounts.accounts.map Account.number)).answer (byteField s.accounts.accounts.length)
  else if (s.findAccount number).isNone then s.refuse .noSuch
  else (s.resetSpent [number]).answer (byteField 1)

/-- The rate card as replies send it, the rates 0 when it is invalid (R144, 12.5). -/
def ratesReport (r : Option RateCard) : List Byte :=
  match r with
  | none => flagField false ++ List.replicate 12 0
  | some r => flagField true ++ r.fields

/-- Set Rates (R143). -/
def serveSetRates (body : List Byte) (s : State) : Reply × State :=
  if !s.accounts.key.reading then s.refuse .keyOff
  else
    ((s.withAccounts { s.accounts with rates := some (rateCardAt body 0) }).markDirty 5).answer
      (ratesReport (some (rateCardAt body 0)))

/-- Read Rates (R144). -/
def serveReadRates (_body : List Byte) (s : State) : Reply × State := s.answer (ratesReport s.accounts.rates)

end Sys2Proof.Machine
end

