-- ==== Sys2Proof/Machine/Metering.lean ====
section
/-! DEFINITION. The Metering Unit (chapter 2): Calibrate Lamp, Meter Test and Read Metering, the ends of passes and
calibration stages, and the lamp watch. -/

namespace Sys2Proof.Machine

/-! ## Requests -/

/-- The check 1 that Calibrate Lamp and Meter Test share (R37, R41): a block is engaged. -/
def State.measuringBusy (s : State) : Bool :=
  s.metering.state ≠ .idle || s.exposure.state ≠ .idle || s.transport.state = .advancing ||
    s.transport.state = .leader

/-- Calibrate Lamp (R37, R38): CALIBRATION, with the lamp lit at step 0 and no heat check. -/
def serveCalibrateLamp (_body : List Byte) (s : State) : Reply × State :=
  if s.measuringBusy then s.refuse .busy
  else if s.orders.active.isSome then s.refuse .wrongState
  else if s.exposure.gate.reading then s.refuse .wrongState
  else
    ((s.withMetering { s.metering with state := .calibration, calibrating := some ⟨none, []⟩ }).lightLamp 0
      .calibration).accept []

/-- Meter Test (R41): its checks in order, then the lamp at step 0; the unit enters TEST at the end of the settle. -/
def serveMeterTest (body : List Byte) (s : State) : Reply × State :=
  let kind := byteAt body 0
  let offset := signedByteAt body 1
  if kind > 3 || offset < -24 || offset > 24 then s.refuse .outOfRange
  else if s.measuringBusy then s.refuse .busy
  else if s.orders.active.isSome then s.refuse .wrongState
  else if !s.calibration.calibrated then s.refuse .notReady
  else if (s.films.getD kind none).isNone then s.refuse .notReady
  else if !s.exposure.gate.reading then s.refuse .wrongState
  else if !s.heatAllows (passHeat s.calibration) then s.refuse .wrongState
  else ((s.withMetering { s.metering with test := some ⟨kind, offset⟩ }).lightLamp 0 .testPass).accept []

/-- The four averages as Read Metering sends them, 0 when absent (12.5, R197). -/
def averagesReport (a : Option Averages) : List Byte :=
  match a with
  | none => pairField 0 ++ pairField 0 ++ pairField 0 ++ pairField 0 ++ byteField 0
  | some a => pairField a.ref ++ pairField a.red ++ pairField a.green ++ pairField a.blue ++ byteField a.flagByte

/-- REF1 to REF3 and E1 to E3 as Read Metering sends them, 0 when absent. -/
def stagesReport (references : List Nat) (offsets : List Int) : List Byte :=
  pairField (references.getD 0 0) ++ pairField (references.getD 1 0) ++ pairField (references.getD 2 0) ++
    signedByteField (offsets.getD 0 0) ++ signedByteField (offsets.getD 1 0) ++ signedByteField (offsets.getD 2 0)

/-- The body of a Read Metering reply (R33, 12.5): with pass kind NONE it ends after the fresh byte (R201). -/
def MeterRecord.report (r : MeterRecord) (fresh : Bool) : List Byte :=
  match r with
  | .none => byteField 0 ++ flagField fresh
  | .order outcome id a ageing =>
    byteField 1 ++ flagField fresh ++ byteField outcome.code ++ pairField id ++ averagesReport (some a) ++
      signedByteField ageing ++ byteField 0 ++ signedByteField 0 ++ PlanEntry.zero.report ++ byteField 0 ++
      stagesReport [] []
  | .test outcome kind offset a ageing entry =>
    byteField 2 ++ flagField fresh ++ byteField outcome.code ++ pairField 0 ++ averagesReport a ++
      signedByteField (ageing.getD 0) ++ byteField kind ++ signedByteField offset ++ (entry.getD .zero).report ++
      byteField 0 ++ stagesReport [] []
  | .calibration outcome steps a references offsets =>
    byteField 3 ++ flagField fresh ++ byteField outcome.code ++ pairField 0 ++ averagesReport a ++
      signedByteField 0 ++ byteField 0 ++ signedByteField 0 ++ PlanEntry.zero.report ++ byteField steps ++
      stagesReport references offsets

/-- Read Metering (R33): the whole record, and then the fresh mark is no. -/
def serveReadMetering (_body : List Byte) (s : State) : Reply × State :=
  (s.withMetering { s.metering with fresh := false }).answer (s.metering.record.report s.metering.fresh)

/-! ## Ends of passes -/

/-- A full pass has run: the lamp has been lit for the settle time plus 20 ms (R28). -/
def State.passLit (s : State) : State := s.litFor (passHeat s.calibration)

/-- The end of the fourth scan of the active order's pass (R31): the record, LAMP_FAULT, IDLE and lamp out, the report
to the Order Table, which plans the order or pauses it (R11). The unit is left IDLE; the first frame is
`State.beginFirstFrame`. -/
def State.endOrderPass (s : State) (a : Averages) : State :=
  match s.activeOrder with
  | none => s
  | some o =>
    let ageing := ageingTerm s.calibration a.ref
    let failing := lampFailing s.calibration a.ref
    let recorded := s.writeRecord (.order (if failing then .lampFault else .ok) o.id a ageing)
    let raised := if failing then recorded.raise .lampFault else recorded
    let dark := raised.passLit.endLighting.meterIdle
    if failing then dark.pauseOrder o.id .lamp else dark.planOrder o a

/-- The end of the fourth scan of a Meter Test (R42, R60): a plan entry when the lamp is good, the record, LAMP_FAULT,
METERING_DONE and IDLE. -/
def State.endTestPass (s : State) (t : MeterTest) (a : Averages) : State :=
  let failing := lampFailing s.calibration a.ref
  let entry := if failing then none
               else (s.films.getD t.filmKind none).map fun f => planEntry s.calibration f a t.offset
  let outcome := if failing then PassOutcome.lampFault else .ok
  let recorded := s.writeRecord
    (.test outcome t.filmKind t.offset (some a) (some (ageingTerm s.calibration a.ref)) entry)
  let raised := if failing then recorded.raise .lampFault else recorded
  (raised.raise .meteringDone).passLit.endLighting.meterIdle

/-! ## Calibration stages -/

/-- The lamp goes on to the next step of a calibration without going out (R64): the heat of the step is accrued and a
fresh settle begins. -/
def State.nextCalibrationStep (s : State) (step : Nat) : State :=
  let accrued := s.withExposure { s.exposure with heatUsed := s.exposure.heatAfter }
  accrued.lightLamp step .calibration

/-- The lit time of a calibration stage: its settle, and 20 ms of scans or 5 ms of a reference pass (R38). -/
def stageTime (cal : StandCalibration) (stages : Nat) : Nat :=
  cal.settle + if stages = 0 then Config.passTime else Config.groupTime

/-- An accepted calibration's results become the metering fields, and place 0 is marked dirty (R36, R39). -/
def State.acceptCalibration (s : State) (a : Averages) (offsets : List Int) : State :=
  (s.withCalibration
    { s.calibration with
      refCal := a.ref, baseRed := a.red, baseGreen := a.green, baseBlue := a.blue
      e1 := (offsets.getD 0 0).toNat, e2 := (offsets.getD 1 0).toNat, e3 := (offsets.getD 2 0).toNat }).markDirty 0

/-- The end of stage 4 (R39): acceptance, the record, METERING_DONE, lamp out and IDLE. -/
def State.judgeCalibration (s : State) (r : CalibrationResults) : State :=
  let dark := s.endLighting
  match r.first, r.references with
  | some a, [r1, r2, r3] =>
    let ok := calibrationAccepted a r1 r2 r3
    let kept := if ok then dark.acceptCalibration a r.offsets else dark
    ((kept.writeRecord (r.record (if ok then .ok else .failed))).raise .meteringDone).meterIdle
  | _, _ => dark

/-- The end of a stage (R38): its averages are kept, and the next stage begins or the results are judged. -/
def State.endCalibrationStage (s : State) (r : CalibrationResults) (a : Averages) : State :=
  let lit := s.litFor (stageTime s.calibration r.stages)
  let results : CalibrationResults :=
    if r.stages = 0 then { first := some a, references := [] } else { r with references := r.references ++ [a.ref] }
  let kept := lit.withMetering { lit.metering with calibrating := some results }
  if results.stages < 4 then kept.nextCalibrationStep results.stages else kept.judgeCalibration results

/-! ## The lamp watch -/

/-- A lamp failure (R35): LAMP_FAULT, the exposure aborted with its frame spoiled, and the order CANCELLED, DONE or
PAUSED for LAMP (R18). -/
def State.failLamp (s : State) : State :=
  match s.activeOrder with
  | none => ((s.raise .lampFault).endLighting).meterIdle
  | some o =>
    let spoiled := (s.raise .lampFault).abortExposure true
    if o.cancelRequested then spoiled.finishOrder o.id .cancelled
    else if o.unmade = 1 then spoiled.finishOrder o.id .done
    else spoiled.pauseOrder o.id .lamp

/-- The end of a group of the watch (R34): compared with the threshold of the exposure's lamp step. The lamp has been
lit 5 ms for each ended group after the settle, and never past the exposure's time. -/
def State.endWatchGroup (s : State) (step time average : Nat) : State :=
  let groups := s.metering.watchGroups + 1
  let reached := s.calibration.settle + min time (groups * Config.groupTime)
  let counted := (s.withMetering { s.metering with watchGroups := groups }).litFor (max s.exposure.litTime reached)
  if average < watchThreshold s.metering.record.refUsed step then counted.failLamp else counted

end Sys2Proof.Machine
end

