-- ==== Sys2Proof/Machine/Exposure.lean ====
section
/-! DEFINITION. The Exposure Computation's and the Exposure Unit's requests and events (chapters 3 and 4): film kinds, the
stand calibration, settles, exposures and the gate. -/

namespace Sys2Proof.Machine

/-! ## Film kinds -/

/-- The figures of a film kind as replies send them, 0 when the record is undefined (R46, 12.5). -/
def filmKindReport (f : Option FilmKind) : List Byte :=
  match f with
  | none => flagField false ++ List.replicate 7 0
  | some f => flagField true ++ f.fields

/-- A record with the fallback weights (0, 1, 0) in the place of weights all 0 (R45). -/
def FilmKind.withFallback (f : FilmKind) : FilmKind :=
  if f.wr + f.wg + f.wb = 0 then { f with wr := 0, wg := 1, wb := 0 } else f

/-- An order of a film kind is in METERING or EXPOSING (R45). -/
def State.kindInUse (s : State) (kind : Nat) : Bool :=
  s.orders.table.any fun o => o.filmKind = kind && (o.state = .metering || o.state = .exposing)

/-- Set Film Kind (R45). -/
def serveSetFilmKind (body : List Byte) (s : State) : Reply × State :=
  let kind := byteAt body 0
  let f := filmKindAt body 1
  if kind > 3 || !f.figuresInRange then s.refuse .outOfRange
  else if s.kindInUse kind then s.refuse .wrongState
  else
    ((s.withFilms (s.films.set kind (some f.withFallback))).markDirty (1 + kind)).answer
      (filmKindReport (some f.withFallback))

/-- Read Film Kind (R46). -/
def serveReadFilmKind (body : List Byte) (s : State) : Reply × State :=
  let kind := byteAt body 0
  if kind > 3 then s.refuse .outOfRange else s.answer (filmKindReport (s.films.getD kind none))

/-! ## The stand calibration -/

/-- Set Stand Calibration (R75): a changed lamp code clears REFcal. -/
def serveSetStandCalibration (body : List Byte) (s : State) : Reply × State :=
  let old := s.calibration
  let new := withSettings old body
  if !new.settingsInRange then s.refuse .outOfRange
  else if s.orders.active.isSome then s.refuse .wrongState
  else if s.exposure.state ≠ .idle || s.metering.state ≠ .idle then s.refuse .busy
  else
    let sameCodes := new.c0 = old.c0 ∧ new.c1 = old.c1 ∧ new.c2 = old.c2 ∧ new.c3 = old.c3
    let stored := if sameCodes then new else { new with refCal := 0 }
    ((s.withCalibration stored).markDirty 0).answer (flagField stored.calibrated)

/-- Read Stand Calibration (R76, 12.5). -/
def serveReadStandCalibration (_body : List Byte) (s : State) : Reply × State :=
  s.answer (s.calibration.fields ++ flagField s.calibration.calibrated ++ pairField s.exposure.heatUsed ++
    flagField s.exposure.gate.reading)

/-! ## Settles and exposures -/

/-- The settled lamp is lit at its step. -/
def Lamp.settled : Lamp → Lamp
  | .settling k => .lit k
  | .off => .off
  | .lit k => .lit k

/-- The end of the settle (R64): the lamp is LIT and is handed to the purpose of the lighting; for an exposure the
shutter opens and the watch begins (R34, R65). -/
def State.endSettle (s : State) (p : Purpose) : State :=
  let lit := s.withExposure
    { s.exposure with
      lamp := s.exposure.lamp.settled, litTime := s.calibration.settle
      state := match p with
        | .exposure _ _ => .expose
        | .orderPass | .testPass | .calibration => .meter
      shutterOpen := match p with
        | .exposure _ _ => true
        | .orderPass | .testPass | .calibration => s.exposure.shutterOpen }
  match p with
  | .orderPass => lit.withMetering { lit.metering with state := .pass }
  | .testPass => lit.withMetering { lit.metering with state := .test }
  | .calibration => lit
  | .exposure _ _ => lit.withMetering { lit.metering with state := .watch, watchGroups := 0 }

/-- The end of the exposure time (R65): shutter, watch, lamp with the settle time plus T lit, IDLE, and the
completion (R13). -/
def State.endExposure (s : State) (time : Nat) : State :=
  ((s.litFor (s.calibration.settle + time)).endLighting.meterIdle).completeExposure

/-! ## The gate -/

/-- A lighting under way ends because the gate changed (R68): an exposure is aborted, a pass, test or calibration
abandoned. -/
def State.gateEndsLighting (s : State) : State :=
  match s.exposure.purpose with
  | none => s
  | some .orderPass => s.abandonPass
  | some .testPass => s.abandonTest true
  | some .calibration => s.abandonCalibration true
  | some (.exposure _ _) => s.abortExposure true

/-- The Order Table acts on the gate going EMPTY (R17, R19). `underWay`: the gate aborted an exposure of the active
order, which is then cut short whatever its progress (log 17). -/
def State.gateOpened (s : State) (underWay : Bool) : State :=
  match s.activeOrder with
  | none => s
  | some o => if o.finalAdvance && !underWay then s else s.finishOrder o.id (.cutShort .slideRemoved)

/-- A change of the gate state is taken (R68); the first reading after a reset raises no SLIDE (R67). -/
def State.changeGate (s : State) : State :=
  let occupied := s.exposure.gate.level
  let first := s.exposure.firstReading
  let underWay := s.exposureUnderWay
  let read := s.withExposure { s.exposure with gate := s.exposure.gate.taken, firstReading := false }
  let dark := read.gateEndsLighting
  let cooled := if occupied then dark.withExposure { dark.exposure with heatUsed := 0 } else dark
  let noted := if first then cooled else cooled.raise .slide
  if occupied then noted else noted.gateOpened underWay

/-- A change of the gate switch (R67): any change ends the wait for a first reading. -/
def State.changeGateSwitch (s : State) (closed : Bool) : State :=
  let gate := s.exposure.gate
  if closed = gate.level then s
  else if s.running then s.withExposure { s.exposure with gate := gate.change closed, firstReading := false }
  else s.withExposure { s.exposure with gate := gate.unread closed }

end Sys2Proof.Machine
end

