-- ==== Sys2Proof/Machine/Notices.lean ====
section
/-! DEFINITION. The requests of the Notice Unit (chapter 11): Status, Set and Clear Notice Enable, Clear Notices. -/

namespace Sys2Proof.Machine

/-- The loaded kind as reports show it: none in EMPTY, SEATING and MISSEATED, sent as 255 (R99, R197). -/
def State.shownKind (s : State) : Nat :=
  match s.transport.state with
  | .empty | .seating | .misseated => 255
  | .loaded | .leader | .ready | .advancing | .atEnd | .rewinding | .rewound | .jammed =>
    s.transport.loadedKind.getD 255

/-- The intersection of the pending and enabled sets (R188, R190). -/
def NoticeUnit.shared (n : NoticeUnit) : NoticeSet := n.pending &&& n.enabled

/-- The body of a Status reply (R193, 12.5). -/
def State.statusBody (s : State) : List Byte :=
  setField s.notices.pending ++ setField s.notices.enabled ++ setField s.notices.shared ++
    byteField s.transport.state.code ++ byteField s.transport.currentFrame ++ byteField s.shownKind ++
    byteField s.exposure.state.code ++ flagField s.exposure.gate.reading ++ pairField (s.orders.active.getD 0) ++
    byteField s.labels.printer.code ++ byteField s.labels.queue.length ++ flagField s.accounts.key.reading ++
    flagField s.calibration.calibrated ++ byteField s.notices.lastRefusal.code ++ pairField s.notices.lastFinished

/-- Status (R193). -/
def serveStatus (_body : List Byte) (s : State) : Reply × State := s.answer s.statusBody

/-- The enabled set is replaced, and the answer shows it with the intersection (R191). -/
def State.enable (s : State) (enabled : NoticeSet) : Reply × State :=
  let t := s.withNotices { s.notices with enabled := enabled }
  t.answer (setField enabled ++ setField t.notices.shared)

/-- Set Notice Enable (R191). -/
def serveSetNoticeEnable (body : List Byte) (s : State) : Reply × State :=
  let named := noticeSetAt body
  if namesUnknownNotice named then s.refuse .outOfRange else s.enable (s.notices.enabled ||| named)

/-- Clear Notice Enable (R191). -/
def serveClearNoticeEnable (body : List Byte) (s : State) : Reply × State :=
  let named := noticeSetAt body
  if namesUnknownNotice named then s.refuse .outOfRange else s.enable (s.notices.enabled &&& ~~~named)

/-- Clear Notices (R192). -/
def serveClearNotices (body : List Byte) (s : State) : Reply × State :=
  let named := noticeSetAt body
  if namesUnknownNotice named then s.refuse .outOfRange
  else
    let left := s.notices.pending &&& ~~~named
    (s.withNotices { s.notices with pending := left }).answer (setField left)

end Sys2Proof.Machine
end

