-- ==== Sys2Proof/Machine/Orders.lean ====
section
/-! DEFINITION. The requests of the Order Table (chapter 1): Submit Order, Cancel Order, Order Report, Retire Order,
Start and Stop. -/

namespace Sys2Proof.Machine

/-! ## Submit Order -/

/-- The frame rate of a film kind on a rate card (section 8.3). -/
def RateCard.frameRate (r : RateCard) (kind : Nat) : Nat :=
  match kind with
  | 0 => r.frame0
  | 1 => r.frame1
  | 2 => r.frame2
  | _ => r.frame3

/-- The record of an admitted order (R1): the holds are the three parts of R145. -/
def SubmitFields.record (f : SubmitFields) (r : RateCard) : Order :=
  let planned := f.offsets.length * f.copies
  let labels := f.labelsCode = 1
  { id := f.id, account := f.account, filmKind := f.filmKind, catalogue := storedText f.catalogue
    title := storedText f.title, offsets := f.offsets, copies := f.copies, labels := labels
    setupFee := r.setup, frameRate := r.frameRate f.filmKind, labelRate := r.label
    setupHold := r.setup, frameHold := planned * r.frameRate f.filmKind
    labelHold := if labels then planned * r.label else 0
    state := .queued, cancelRequested := false, nextStep := 1, nextCopy := 1, exposed := 0, spoiled := 0
    plan := none, taken := [], labelsOutstanding := if labels then planned else 0 }

/-- H, the sum of an order's remaining holds (R145). -/
def Order.holds (o : Order) : Nat := o.setupHold + o.frameHold + o.labelHold

/-- An id is named by an EXPOSED frame entry of a roll in the table (R5). -/
def State.exposedFrameNames (s : State) (id : Nat) : Bool :=
  s.rolls.any fun r => r.frames.any fun f => f.state = .exposed && f.order = id

/-- The checks of an admission after its form, in the order of R5, but for the money: the first that fails. -/
def State.admissionRefusal (s : State) (f : SubmitFields) : Option Result :=
  if s.labels.mark.isNone then some .noMark
  else if s.accounts.rates.isNone then some .notReady
  else if (s.findOrder f.id).isSome || s.exposedFrameNames f.id then some .duplicate
  else if s.orders.table.length ≥ Config.maxOrders then some .tableFull
  else match s.findAccount f.account with
    | none => some .noSuch
    | some a =>
      if a.suspended then some .wrongState
      else if (s.films.getD f.filmKind none).isNone then some .notReady
      else none

/-- A hold is placed on an account (R145). -/
def State.placeHold (s : State) (number amount : Nat) : State :=
  s.changeAccount number fun a => { a with held := a.held + amount }

/-- An order is appended to the table, after all the records present (R3). -/
def State.appendOrder (s : State) (o : Order) : State :=
  s.withOrders { s.orders with table := s.orders.table ++ [o] }

/-- The library mark becomes locked (R120). -/
def State.lockMark (s : State) : State := s.withLabels { s.labels with locked := true }

/-- The available amount of an account number. -/
def State.availableOf (s : State) (number : Nat) : Nat := ((s.findAccount number).map Account.available).getD 0

/-- An admission (R5): the hold, the record, the mark lock, the reply with the hold and the amount available after. -/
def State.admitOrder (s : State) (o : Order) : Reply × State :=
  let t := ((s.placeHold o.account o.holds).appendOrder o).lockMark
  t.answer (quadField o.holds ++ quadField (t.availableOf o.account))

/-- Submit Order (R4, R5). -/
def serveSubmitOrder (body : List Byte) (s : State) : Reply × State :=
  let f := readSubmit body
  if !f.inRange then s.refuse .outOfRange
  else match s.admissionRefusal f, s.accounts.rates with
    | some r, _ => s.refuse r
    | none, none => s.refuse .notReady
    | none, some rates =>
      let o := f.record rates
      if s.availableOf o.account < o.holds then s.refuse .insufficient else s.admitOrder o

/-! ## Cancel Order -/

/-- A Cancel Order for an order in EXPOSING with frames unmade (R21): the mark is set, and what is in flight goes on. A
first frame that waits for the Cancel, which found the unit IDLE (R73), begins behind it (R12, log 33). -/
def State.markCancel (s : State) (o : Order) : State :=
  let marked := s.mapOrder o.id fun p => { p with cancelRequested := true }
  if s.exposure.frameWaits && s.exposure.state = .idle && s.transport.state = .ready then
    (marked.withExposure { s.exposure with frameWaits := false }).beginFrame o.id
  else marked

/-- Cancel Order (R17, R21). -/
def serveCancelOrder (body : List Byte) (s : State) : Reply × State :=
  match s.findOrder (pairAt body 0) with
  | none => s.refuse .noSuch
  | some o =>
    match o.state with
    | .done | .cutShort _ | .cancelled => s.refuse .wrongState
    | .queued | .paused _ => (s.finishOrder o.id .cancelled).answer []
    | .metering => ((s.dropOrderLighting true).finishOrder o.id .cancelled).answer []
    | .exposing =>
      if o.unmade = 0 then s.answer []
      else (s.markCancel o).answer []

/-! ## Order Report -/

/-- A frames-taken entry (12.5). -/
def takenReport (t : Nat × Nat) : List Byte := pairField t.1 ++ byteField t.2

/-- The body of an Order Report for a record at a position of the table (R25, 12.5). -/
def Order.report (o : Order) (position : Nat) : List Byte :=
  byteField position ++ pairField o.id ++ pairField o.account ++ byteField o.filmKind ++ byteField o.state.code ++
    byteField o.state.pauseCode ++ byteField o.state.finishCode ++ flagField o.cancelRequested ++ flagField o.labels ++
    byteField o.copies ++ byteField o.offsets.length ++ o.offsets.flatMap signedByteField ++
    byteField o.nextStep ++ byteField o.nextCopy ++ byteField o.exposed ++ byteField o.spoiled ++
    pairField o.setupFee ++ pairField o.frameRate ++ pairField o.labelRate ++
    quadField o.setupHold ++ quadField o.frameHold ++ quadField o.labelHold ++ byteField o.labelsOutstanding ++
    textField o.catalogue ++ textField o.title ++ byteField o.taken.length ++ o.taken.flatMap takenReport ++
    (match o.plan with
     | none => flagField false
     | some entries => flagField true ++ entries.flatMap PlanEntry.report)

/-- The position of an order in the table, counted from 1 (R25). -/
def State.positionOf (s : State) (id : Nat) : Nat := s.orders.table.findIdx (fun o => o.id = id) + 1

/-- Order Report (R25): id 0 names the active order. -/
def serveOrderReport (body : List Byte) (s : State) : Reply × State :=
  let named := if pairAt body 0 = 0 then s.activeOrder else s.findOrder (pairAt body 0)
  match named with
  | none => s.refuse .noSuch
  | some o => s.answer (o.report (s.positionOf o.id))

/-! ## Retire Order -/

/-- Whether an order may be retired (R26). -/
def Order.retirable (o : Order) : Bool := o.state.finished && o.labelsOutstanding = 0 && o.holds = 0

/-- Retire Order (R26). -/
def serveRetireOrder (body : List Byte) (s : State) : Reply × State :=
  match s.findOrder (pairAt body 0) with
  | none => s.refuse .noSuch
  | some o =>
    if o.retirable then
      (s.withOrders { s.orders with table := s.orders.table.filter fun p => p.id ≠ o.id }).answer []
    else s.refuse .wrongState

/-! ## Start and Stop -/

/-- Start (R6 to R10): a refusal carries its reason. -/
def serveStart (_body : List Byte) (s : State) : Reply × State :=
  match s.startDecision with
  | (id, .none) => (s.beginOrder id).accept []
  | (_, why) => (⟨.wrongState, byteField why.code⟩, s)

/-- Stop (R20). -/
def serveStop (_body : List Byte) (s : State) : Reply × State := s.takeStop.answer []

/-- A START press is taken as a Start; a refusal is recorded and raises START_REFUSED (R9). -/
def State.takeStartPress (s : State) : State :=
  match s.startDecision with
  | (id, .none) => s.beginOrder id
  | (_, why) => (s.withNotices { s.notices with lastRefusal := why }).raise .startRefused

end Sys2Proof.Machine
end

