-- ==== Sys2Proof/Machine/Labels.lean ====
section
/-! DEFINITION. The Label Unit (chapter 7): Set Library Mark, Label Status and Resume Printer, the printer handshake and
label completion. -/

namespace Sys2Proof.Machine

/-- Set Library Mark (R119). -/
def serveSetLibraryMark (body : List Byte) (s : State) : Reply × State :=
  let text := body.drop 1
  if text.length = 0 || text.length > 8 then s.refuse .outOfRange
  else if s.labels.locked then s.refuse .locked
  else (s.withLabels { s.labels with mark := some (storedText text) }).answer (textField (storedText text))

/-- The head entry of a queue, 0 when it is empty (R136, R197). -/
def headReport (q : List LabelEntry) : List Byte :=
  match q with
  | [] => flagField false ++ pairField 0 ++ byteField 0 ++ pairField 0
  | e :: _ => flagField true ++ pairField e.roll ++ byteField e.frame ++ pairField e.order

/-- Bytes taken and label length, in SENDING only (R136). -/
def Printer.progress : Printer → List Byte
  | .sending label index => byteField index ++ byteField label.length
  | .idle | .feeding _ _ | .stockOut | .faulted _ => byteField 0 ++ byteField 0

/-- The body of a Label Status reply (R136, 12.5). A line's level byte is 1 for high and 0 for low: DESIGN CHOICE (log 32). -/
def LabelUnit.report (l : LabelUnit) : List Byte :=
  byteField l.printer.code ++ byteField l.printer.causeCode ++ byteField l.queue.length ++ headReport l.queue ++
    flagField l.stockHigh ++ flagField l.faultHigh ++ l.printer.progress ++ textField (l.mark.getD []) ++
    flagField l.locked

/-- Label Status (R136). -/
def serveLabelStatus (_body : List Byte) (s : State) : Reply × State := s.answer s.labels.report

/-- The printer returns to IDLE, and an entry at the head begins printing (R122, R135). -/
def State.printerIdle (s : State) : State := (s.withLabels (s.labels.enter .idle)).beginPrinting

/-- Resume Printer (R135): a refusal carries the printer state. -/
def serveResumePrinter (_body : List Byte) (s : State) : Reply × State :=
  match s.labels.printer with
  | .idle | .sending _ _ | .feeding _ _ => s.answer (byteField s.labels.printer.code)
  | .stockOut | .faulted _ =>
    if s.labels.stockHigh && s.labels.faultHigh then
      s.printerIdle.answer (byteField s.printerIdle.labels.printer.code)
    else (⟨.wrongState, byteField s.labels.printer.code⟩, s)

/-- PRN_BUSY low after the strobe takes a byte (R127): PRN_BUSY being low, the next byte is placed and strobed at once, or
at the form feed, the label's last byte, the printer enters FEEDING. A byte that no look has found PRN_BUSY low for is
placed, strobed and taken within this event (log 34). -/
def State.takeByte (s : State) : State :=
  match s.labels.printer with
  | .sending label index =>
    if index + 1 < label.length then
      s.withLabels
        { s.labels with
          printer := .sending label (index + 1), wait := 0, dataLines := label.getD (index + 1) 0, strobed := true }
    else s.withLabels (s.labels.enter (.feeding label index))
  | .idle | .feeding _ _ | .stockOut | .faulted _ => s

/-- The label of an entry makes its frame LABELLED (R114). -/
def State.labelFrame (s : State) (e : LabelEntry) : State :=
  s.mapRoll e.roll fun r =>
    match r.frame e.frame with
    | some f => if f.state = .kept then r.writeFrame e.frame { f with state := .labelled } else r
    | none => r

/-- A completion at the Order Table: one label fewer is owed, and the captured label rate is posted (R130, R147). -/
def State.chargeLabel (s : State) (id : Nat) : State :=
  match s.findOrder id with
  | none => s
  | some o => (s.oweFewerLabels id 1).post id .label o.labelRate

/-- A label completes (R130): the entry leaves the queue, its frame is LABELLED, its order is charged, the printer is
IDLE and begins the next head, or LABELS_DONE is raised. -/
def State.completeLabel (s : State) (e : LabelEntry) (rest : List LabelEntry) : State :=
  let removed := s.withLabels { s.labels with queue := rest }
  let settled := (removed.labelFrame e).chargeLabel e.order
  if rest.isEmpty then (settled.withLabels (settled.labels.enter .idle)).raise .labelsDone else settled.printerIdle

/-- A FED pulse (R129): outside FEEDING it is ignored. -/
def State.takeFed (s : State) : State :=
  match s.labels.printer, s.labels.queue with
  | .feeding _ _, e :: rest => s.completeLabel e rest
  | _, _ => s

/-- A Restart at the Label Unit (R137): a label in print is abandoned, and the lines give the state, with no notice. -/
def State.restartPrinter (s : State) : State :=
  (s.withLabels (s.labels.enter s.labels.fromLines)).beginPrinting

end Sys2Proof.Machine
end

