-- ==== Sys2Proof/Machine/Rolls.lean ====
section
/-! DEFINITION. The Roll Table (chapter 6): its checks and record for Declare Roll, fogging, Keep Report, Close Roll and
Roll Report. -/

namespace Sys2Proof.Machine

/-! ## Declaring (R102, R103) -/

/-- The declared frames of a frame count: the loaded kind's default for 0, else clamped into 12 to 40 (R102). -/
def State.declaredFrames (s : State) (count : Nat) : Option Nat :=
  if count = 0 then (s.transport.loadedKind.bind fun k => s.films.getD k none).map FilmKind.defaultFrames
  else some (max 12 (min 40 count))

/-- A new roll record (R103). -/
def newRoll (number kind frames : Nat) : Roll :=
  { number := number, filmKind := kind, declared := frames, usable := frames, current := 0, state := .inCamera
    frames := List.replicate frames .blank }

/-! ## Out of the camera, and fogging -/

/-- The roll in camera was removed from REWOUND (R108). -/
def State.rollOut (s : State) : State := s.mapRollInCamera fun r => { r with state := .out }

/-- An EXPOSED entry becomes FOGGED; any other is unchanged (R109). -/
def Frame.fog (f : Frame) : Frame := if f.state = .exposed then { f with state := .fogged } else f

/-- The two requests made for an entry that became FOGGED: the refund and the report to its order (R110). -/
def State.settleFogged (s : State) (f : Frame) : State := (s.refund f.account f.charge).giveUpLabel f.order

/-- A fogging removal at the Roll Table (R109, R110): the record and its EXPOSED entries become FOGGED, and each such
entry is refunded and reported, in ascending frame order. -/
def State.fogRoll (s : State) : State :=
  match s.transport.roll.bind s.findRoll with
  | none => s
  | some r =>
    let fogged := s.mapRoll r.number fun r => { r with state := .fogged, frames := r.frames.map Frame.fog }
    (r.frames.filter fun f => f.state = .exposed).foldl State.settleFogged fogged

/-! ## Keep Report -/

/-- An order in the table wants labels. -/
def State.wantsLabels (s : State) (id : Nat) : Bool := (s.findOrder id).any fun o => o.labels

/-- The frames of a roll with their numbers. -/
def Roll.numbered (r : Roll) : List (Nat × Frame) := (List.range r.frames.length).map (· + 1) |>.zip r.frames

/-- An EXPOSED entry becomes KEPT when it is listed and REJECTED when it is not; any other is unchanged (R112). -/
def keepFrame (listed : List Nat) (entry : Nat × Frame) : Frame :=
  let f := entry.2
  if f.state = .exposed then { f with state := if listed.contains entry.1 then .kept else .rejected } else f

/-- The frames a list keeps (R112). -/
def Roll.keptBy (r : Roll) (listed : List Nat) : List (Nat × Frame) :=
  r.numbered.filter fun e => e.2.state = .exposed && listed.contains e.1

/-- The frames a list rejects (R112). -/
def Roll.rejectedBy (r : Roll) (listed : List Nat) : List (Nat × Frame) :=
  r.numbered.filter fun e => e.2.state = .exposed && !listed.contains e.1

/-- The distinct numbers of a list, which lie in 1 to 40 (R112). -/
def distinctNumbers (listed : List Nat) : List Nat := ((List.range 40).map (· + 1)).filter listed.contains

/-- The label queue entries that a list's kept frames give, in ascending frame order (R113). -/
def State.labelsFor (s : State) (r : Roll) (listed : List Nat) : List LabelEntry :=
  ((r.keptBy listed).filter fun e => s.wantsLabels e.2.order).map fun e => ⟨r.number, e.1, e.2.order⟩

/-- Rejected frames are reported to their orders, in ascending frame order (R112). -/
def State.reportRejected (s : State) (rejected : List (Nat × Frame)) : State :=
  rejected.foldl (fun t e => t.giveUpLabel e.2.order) s

/-- Entries join the label queue behind those present, and an IDLE printer begins (R113, R122). -/
def State.queueLabels (s : State) (entries : List LabelEntry) : State :=
  (s.withLabels { s.labels with queue := s.labels.queue ++ entries }).beginPrinting

/-- A Keep Report taken (R112, R113). -/
def State.takeKeepReport (s : State) (r : Roll) (f : KeepFields) : Reply × State :=
  let entries := s.labelsFor r f.kept
  let kept := r.keptBy f.kept
  let rejected := r.rejectedBy f.kept
  let marked := s.mapRoll r.number fun r =>
    { r with state := .keepReported (storedText f.date), frames := r.numbered.map (keepFrame f.kept) }
  ((marked.reportRejected rejected).queueLabels entries).answer
    (byteField kept.length ++ byteField rejected.length ++
      byteField ((distinctNumbers f.kept).length - kept.length) ++ byteField entries.length)

/-- Keep Report (R111). -/
def serveKeepReport (body : List Byte) (s : State) : Reply × State :=
  let f := readKeep body
  if !f.inRange then s.refuse .outOfRange
  else match s.findRoll f.roll with
    | none => s.refuse .noSuch
    | some r =>
      if r.state ≠ .out then s.refuse .wrongState
      else if s.labels.queue.length + (s.labelsFor r f.kept).length > Config.maxLabels then s.refuse .tableFull
      else s.takeKeepReport r f

/-! ## Close Roll -/

/-- A roll record is removed; the others keep their order (R100). -/
def State.removeRoll (s : State) (number : Nat) : State := s.withRolls (s.rolls.filter fun r => r.number ≠ number)

/-- A label queue entry names a roll (R115). -/
def State.queueNames (s : State) (number : Nat) : Bool := s.labels.queue.any fun e => e.roll = number

/-- Close Roll (R115): the reply carries the frames rejected by the close. -/
def serveCloseRoll (body : List Byte) (s : State) : Reply × State :=
  match s.findRoll (pairAt body 0) with
  | none => s.refuse .noSuch
  | some r =>
    match r.state with
    | .inCamera => s.refuse .wrongState
    | .out =>
      let rejected := r.rejectedBy []
      ((s.reportRejected rejected).removeRoll r.number).answer (byteField rejected.length)
    | .keepReported _ =>
      if s.queueNames r.number then s.refuse .wrongState else (s.removeRoll r.number).answer (byteField 0)
    | .fogged => (s.removeRoll r.number).answer (byteField 0)

/-! ## Roll Report -/

/-- A frame entry of 17 bytes with its number (12.5). -/
def frameReport (e : Nat × Frame) : List Byte :=
  let f := e.2
  byteField e.1 ++ byteField f.state.code ++ pairField f.order ++ pairField f.account ++ byteField f.step ++
    byteField f.copy ++ signedByteField f.offset ++ signedPairField f.stop ++ byteField f.lamp ++ pairField f.time ++
    byteField f.flags.byte ++ pairField f.charge

/-- The number of entries of a roll in a state. -/
def Roll.count (r : Roll) (state : FrameState) : Nat := (r.frames.filter fun f => f.state = state).length

/-- The entries of a page (R117). -/
def Roll.page (r : Roll) (page : Nat) : List (Nat × Frame) := (r.numbered.drop (10 * page)).take 10

/-- The body of a Roll Report (R117, 12.5). -/
def Roll.report (r : Roll) (page : Nat) : List Byte :=
  pairField r.number ++ byteField r.filmKind ++ byteField r.state.code ++ byteField r.declared ++
    byteField r.usable ++ byteField r.current ++ textField r.state.date ++
    [FrameState.blank, .exposed, .spoiled, .kept, .rejected, .labelled, .fogged].flatMap
      (fun state => byteField (r.count state)) ++
    byteField page ++ byteField (r.page page).length ++ (r.page page).flatMap frameReport

/-- Roll Report (R117). -/
def serveRollReport (body : List Byte) (s : State) : Reply × State :=
  let page := byteAt body 2
  if page > 3 then s.refuse .outOfRange
  else match s.findRoll (pairAt body 0) with
    | none => s.refuse .noSuch
    | some r => s.answer (r.report page)

end Sys2Proof.Machine
end

