-- ==== Sys2Proof/Machine/Transport.lean ====
section
/-! DEFINITION. The Transport Unit (chapter 5): Declare Roll and Rewind, the detect contacts, seating and removal, the
perforation pulses and the ends of motor operations. -/

namespace Sys2Proof.Machine

/-! ## Requests -/

/-- A declared roll: its record, the roll in camera, LEADER and the leader's motor (R87, R88, R103). -/
def State.declareRoll (s : State) (number kind frames : Nat) : State :=
  (s.withRolls (s.rolls ++ [newRoll number kind frames])).withTransport
    { s.transport.startMotor .leader .forward with roll := some number, currentFrame := 0 }

/-- Declare Roll (R87, R102). -/
def serveDeclareRoll (body : List Byte) (s : State) : Reply × State :=
  let number := pairAt body 0
  if number = 0 then s.refuse .outOfRange
  else if s.transport.state ≠ .loaded then s.refuse .wrongState
  else if (s.findRoll number).isSome then s.refuse .duplicate
  else if s.rolls.length ≥ Config.maxRolls then s.refuse .tableFull
  else match s.declaredFrames (byteAt body 2) with
    | none => s.refuse .notReady
    | some frames =>
      (s.declareRoll number (s.transport.loadedKind.getD 0) frames).accept (byteField frames)

/-- An order is in METERING or EXPOSING (R94). -/
def State.orderWorking (s : State) : Bool :=
  s.activeOrder.any fun o => o.state = .metering || o.state = .exposing

/-- Whether a Rewind is taken (R94). -/
def State.mayRewind (s : State) : Bool :=
  !s.orderWorking &&
    (s.transport.state = .loaded || s.transport.state = .ready || s.transport.state = .atEnd)

/-- A Rewind taken: the motor in REVERSE (R94). -/
def State.startRewind (s : State) : State := s.withTransport (s.transport.startMotor .rewinding .reverse)

/-- Rewind as a request (R94). -/
def serveRewind (_body : List Byte) (s : State) : Reply × State :=
  if s.mayRewind then s.startRewind.accept [] else s.refuse .wrongState

/-- Rewind as a press: a refused press changes nothing (R94). -/
def State.takeRewindPress (s : State) : State := if s.mayRewind then s.startRewind else s

/-! ## Contacts, seating and removal -/

/-- What the transport does at a new detect reading (R80, R82). -/
def TransportUnit.meetReading (t : TransportUnit) : TransportUnit :=
  match t.state, t.reading with
  | .empty, .one | .empty, .both => { t with state := .seating, fromMisseated := false }
  | .misseated, .both => { t with state := .seating, fromMisseated := true }
  | _, _ => t

/-- The contacts change (R78): a changed reading restarts the seating count, and the removal count runs from the
reading's leaving BOTH until its return. -/
def TransportUnit.changeContacts (t : TransportUnit) (contact1 contact2 : Bool) : TransportUnit :=
  let moved := { t with detect1 := contact1, detect2 := contact2 }
  if moved.reading = t.reading then moved
  else
    let leaving := if t.reading = .both then some 0 else t.openFor
    TransportUnit.meetReading { moved with held := 0, openFor := if moved.reading = .both then none else leaving }

/-- The film kind of the code contacts (section 5.1). -/
def codedKind (code1 code2 : Bool) : Nat := (if code1 then 1 else 0) + (if code2 then 2 else 0)

/-- BOTH has held 100 ms in SEATING (R81). -/
def State.seatMagazine (s : State) (kind : Nat) : State :=
  (s.withTransport
    { s.transport with state := .loaded, loadedKind := some kind, roll := none, currentFrame := 0 }).raise .magazine

/-- NONE has held 30 ms in SEATING or MISSEATED (R80, R82): MAGAZINE when a misseated magazine was reported. -/
def State.unseat (s : State) (reported : Bool) : State :=
  let t := s.withTransport { s.transport with state := .empty, fromMisseated := false }
  if reported then t.raise .magazine else t

/-- The transport after a removal (R84): EMPTY with everything of the magazine cleared, and straight into SEATING when
a contact is still closed (R83). -/
def TransportUnit.removed (t : TransportUnit) : TransportUnit :=
  TransportUnit.meetReading
    { t with
      state := .empty, loadedKind := none, roll := none, currentFrame := 0, motor := .off, pulseCount := 0
      pulseSeen := false, advanceFor := none, openFor := none }

/-- The magazine is cleared from the transport and MAGAZINE raised, with FOGGED before it for a fogging removal. -/
def State.clearMagazine (s : State) (fogging : Bool) : State :=
  let t := s.withTransport s.transport.removed
  (if fogging then t.raise .fogged else t).raise .magazine

/-- A fogging removal (R84): the motor stops, the Order Table is told, then the Roll Table, then the magazine is
cleared and the notices raised. -/
def State.fogMagazine (s : State) : State :=
  let stopped := s.withTransport { s.transport with motor := .off }
  ((stopped.cutShort .magazineRemoved false false).fogRoll).clearMagazine true

/-- A removal by its transport state (R83, R84). -/
def State.removeMagazine (s : State) : State :=
  match s.transport.state, s.transport.roll with
  | .empty, _ | .seating, _ | .misseated, _ => s
  | .loaded, _ => s.clearMagazine false
  | .rewound, some _ => s.rollOut.clearMagazine false
  | .rewinding, none | .rewound, none | .jammed, none => s.clearMagazine false
  | .leader, _ | .ready, _ | .advancing, _ | .atEnd, _ | .rewinding, some _ | .jammed, some _ => s.fogMagazine

/-! ## Motor operations -/

/-- The motor stops in a state. -/
def TransportUnit.stopMotor (t : TransportUnit) (state : TransportState) : TransportUnit :=
  { t with state := state, motor := .off }

/-- The roll in camera's current frame is reported to the Roll Table (R104). -/
def State.reportFrame (s : State) (frame : Nat) : State := s.mapRollInCamera fun r => { r with current := frame }

/-- The usable frames of the roll in camera are cut (R104). -/
def State.cutUsable (s : State) (frames : Nat) : State := s.mapRollInCamera fun r => { r with usable := frames }

/-- Leader completion (R88). -/
def State.endLeader (s : State) : State :=
  ((s.withTransport { s.transport.stopMotor .ready with currentFrame := 1 }).reportFrame 1).raise .rollReady

/-- The outcome of an advance is reported to the order that asked for it (R91, R92). -/
def State.reportAdvance (s : State) (order : Option Nat) (moved : Bool) : State :=
  match order with
  | none => s
  | some id => s.advanceOutcome id moved

/-- Advance completion (R91). -/
def State.endAdvance (s : State) : State :=
  let frame := s.transport.currentFrame + 1
  let ready := s.withTransport { s.transport.stopMotor .ready with currentFrame := frame, advanceFor := none }
  (ready.reportFrame frame).reportAdvance s.transport.advanceFor true

/-- A pulse with the motor running (R86): pulse seen, the quiet time afresh, and in a leader or an advance the count. -/
def TransportUnit.pulse (t : TransportUnit) : TransportUnit :=
  { t with
    pulseSeen := true, quietTime := 0
    pulseCount := if t.state = .leader ∨ t.state = .advancing then t.pulseCount + 1 else t.pulseCount }

/-- A perforation pulse (R86, R88, R91): with the motor OFF it moves no state. -/
def State.takePulse (s : State) : State :=
  if s.transport.motor = .off then s
  else
    let counted := s.withTransport s.transport.pulse
    match counted.transport.state with
    | .leader => if counted.transport.pulseCount ≥ Config.leaderPulses then counted.endLeader else counted
    | .advancing => if counted.transport.pulseCount ≥ Config.advancePulses then counted.endAdvance else counted
    | _ => counted

/-- A leader stall (R89). -/
def State.stallLeader (s : State) : State :=
  ((s.withTransport { s.transport.stopMotor .atEnd with currentFrame := 0, quietTime := Config.stallLimit }).cutUsable
    0).raise .rollEnd

/-- A stall during an advance (R92). -/
def State.stallAdvance (s : State) : State :=
  let stopped := s.withTransport
    { s.transport.stopMotor .atEnd with quietTime := Config.stallLimit, advanceFor := none }
  ((stopped.cutUsable s.transport.currentFrame).raise .rollEnd).reportAdvance s.transport.advanceFor false

/-- Rewind completion (R95). -/
def State.endRewind (s : State) : State :=
  (s.withTransport { s.transport.stopMotor .rewound with currentFrame := 0, quietTime := Config.rewindEndLimit }).raise
    .rollReady

/-- A rewind jam (R96). -/
def State.jamRewind (s : State) : State :=
  (s.withTransport { s.transport.stopMotor .jammed with quietTime := Config.jamLimit }).raise .magazine

end Sys2Proof.Machine
end

