-- ==== Sys2Proof/Machine/Power.lean ====
section
/-! DEFINITION. Power, RESET and the load of the Settings Store (chapter 9): what every block takes at power-on and at a
RESET, the load, the ends of writes, and what every block does at a Restart (R196). -/

namespace Sys2Proof.Machine

/-! ## RESET values -/

/-- The Exposure Unit after a RESET (R62, R67, R74): no accrual, and the gate switch's level is the pin's. -/
def ExposureUnit.cleared (e : ExposureUnit) : ExposureUnit := { ExposureUnit.reset with gate := e.gate.cleared }

/-- The Transport Unit after a RESET (R79, R98): the detect contacts are the pins'. -/
def TransportUnit.cleared (t : TransportUnit) : TransportUnit :=
  { TransportUnit.reset with detect1 := t.detect1, detect2 := t.detect2 }

/-- The Label Unit after a RESET (R118, R138): the printer state is taken from the printer's lines. The model's own count
of looks goes on (log 34). -/
def LabelUnit.cleared (l : LabelUnit) : LabelUnit :=
  { LabelUnit.reset with printer := l.fromLines, looks := l.looks, stockHigh := l.stockHigh, faultHigh := l.faultHigh }

/-- The panel after a RESET (R195). -/
def Panel.cleared (p : Panel) : Panel := { start := p.start.cleared, stop := p.stop.cleared, rewind := p.rewind.cleared }

/-- The store after a RESET (R170): the places keep what they hold. -/
def SettingsStore.cleared (t : SettingsStore) : SettingsStore := { SettingsStore.reset with places := t.places }

/-- Every block takes its values for power-on and RESET (R163, R170), in a phase; the straps keep the reading that the
next load replaces (R174), the pins their levels, the places their contents. -/
def State.cleared (s : State) (phase : Phase) : State :=
  { power := { s.power with phase := phase }
    line := { LinePort.reset with station := s.line.station, rate := s.line.rate }
    notices := .reset, orders := .reset, metering := .reset, films := [none, none, none, none]
    calibration := .default, exposure := s.exposure.cleared, transport := s.transport.cleared, rolls := []
    labels := s.labels.cleared, accounts := { AccountTable.reset with key := s.accounts.key.cleared }
    store := s.store.cleared, panel := s.panel.cleared, pending := s.pending }

/-! ## The load -/

/-- The inputs begin at the end of the reset (R67, R78, R141, R164, R195): closed switches are counted from now, the
detect reading is taken afresh, and the printer's lines once more (log 12). -/
def State.beginInputs (s : State) : State :=
  { s with
    exposure := { s.exposure with gate := s.exposure.gate.afresh, firstReading := s.exposure.gate.level }
    transport := s.transport.meetReading
    labels := { s.labels with printer := s.labels.fromLines }
    accounts := { s.accounts with key := s.accounts.key.afresh }
    panel := { start := s.panel.start.afresh, stop := s.panel.stop.afresh, rewind := s.panel.rewind.afresh } }

/-- The places are read into the working copies (R163); STORE is raised for a damaged or repeating place. No place is
marked dirty. -/
def State.loadPlaces (s : State) : State :=
  let t := s.store
  let loaded :=
    { s with
      calibration := (validRecord (judge readCalibration (t.place 0))).getD .default
      films := t.loadedFilms
      accounts :=
        { s.accounts with
          slots := loadSlots [] t.accountPlaces
          rates := validRecord (judge readRateCard (t.place 5)) } }
  if t.loadRaisesStore then loaded.raise .store else loaded

/-- The load begins (R163): the places are read in this step, and LOAD_END ends it (log 9). -/
def State.beginLoad (s : State) : State :=
  (s.beginInputs.loadPlaces).withPower { s.power with phase := .loading }

/-- Every block takes its RESET values at once; the load follows at once when RESET is high (R170). -/
def State.takeReset (s : State) : State :=
  if s.power.resetHigh then (s.cleared .held).beginLoad else s.cleared .held

/-- The load ends (R163, R174): the straps are read and the port listens; the engine is IDLE, and takes a dirty place
if there is one (R166). -/
def State.endLoad (s : State) (station : BitVec 4) (rate : BitVec 2) : State :=
  ((s.withPower { s.power with phase := .listening }).withLine
    { LinePort.reset with station := station, rate := rate }).startWrite

/-! ## Writes -/

/-- The bytes a cut write leaves, in the size of the place. -/
def tornImage (place : Nat) (torn : List Byte) : List Byte :=
  (torn ++ erasedPlace place).take (Config.placeSize place)

/-- Power is lost (R171): a place being written is left with the bytes the cut write left, all else volatile is gone. -/
def State.losePower (s : State) (torn : List Byte) : State :=
  let places := match s.store.engine with
    | none => s.store.places
    | some w => s.store.places.set w.place (tornImage w.place torn)
  (s.withStore { s.store with places := places }).cleared .off

/-- The end of a write (R166, R169): the place holds the snapshot; a pending RESET takes effect, or the engine takes
the next dirty place. -/
def State.endWrite (s : State) (w : PlaceWrite) : State :=
  let written := s.withStore { s.store with places := s.store.places.set w.place w.image, engine := none }
  if s.store.resetPending then written.takeReset else written.startWrite

/-! ## Restart -/

/-- The Metering Unit and the Exposure Unit at a Restart (R43, R74): a test or a calibration is abandoned with its
record and no notice. The active order's own lighting has been ended by the Order Table. -/
def State.restartMetering (s : State) : State :=
  match s.exposure.purpose with
  | some .testPass => s.abandonTest false
  | some .calibration => s.abandonCalibration false
  | some .orderPass | some (.exposure _ _) | none => s

/-- A Restart takes effect at every block but the Line Port (R196): the pending set is cleared first, then the active
order is cut short, the lighting ended and the printer set from its lines. -/
def State.restartBlocks (s : State) : State :=
  let cleared := s.withNotices { s.notices with pending := 0 }
  ((cleared.cutShort .restart false true).restartMetering).restartPrinter

end Sys2Proof.Machine
end

