-- ==== Sys2Proof/Machine/Line.lean ====
section
/-! DEFINITION. The Line Port (chapter 10): the general checks, the hand-over of each request to its owner, service and
hold, replies, broadcasts, and frame assembly. -/

namespace Sys2Proof.Machine

/-! ## Taking a request -/

/-- A request that has passed the checks of kind and length is handed to its owner (R180, R184), which tests the ranges
of its fields first. -/
def serveChecked (kind : Nat) (body : List Byte) (s : State) : Reply × State :=
  match kind with
  | 1 => serveStatus body s
  | 2 => serveSetNoticeEnable body s
  | 3 => serveClearNoticeEnable body s
  | 4 => serveClearNotices body s
  | 5 => s.answer []
  | 6 => serveStop body s
  | 7 => serveSetLibraryMark body s
  | 16 => serveSubmitOrder body s
  | 17 => serveCancelOrder body s
  | 18 => serveOrderReport body s
  | 19 => serveRetireOrder body s
  | 20 => serveStart body s
  | 32 => serveDeclareRoll body s
  | 33 => serveRewind body s
  | 34 => serveRollReport body s
  | 35 => serveKeepReport body s
  | 36 => serveCloseRoll body s
  | 48 => serveSetFilmKind body s
  | 49 => serveReadFilmKind body s
  | 50 => serveSetStandCalibration body s
  | 51 => serveReadStandCalibration body s
  | 52 => serveCalibrateLamp body s
  | 53 => serveMeterTest body s
  | 54 => serveReadMetering body s
  | 64 => serveLabelStatus body s
  | 65 => serveResumePrinter body s
  | 80 => serveSetAccount body s
  | 81 => serveAccountReport body s
  | 82 => serveCloseAccount body s
  | 83 => serveResetPeriod body s
  | 84 => serveSetRates body s
  | 85 => serveReadRates body s
  | _ => s.refuse .unknownKind

/-- The answer to a request as it is taken (R184): UNKNOWN_KIND, BAD_LENGTH, then its owner. A Restart is answered DONE
and its effect waits for the end of its reply (R185). -/
def serve (r : Request) (s : State) : Reply × State :=
  if !isRequestKind r.kind then s.refuse .unknownKind
  else if !lengthOk r.kind r.body then s.refuse .badLength
  else serveChecked r.kind r.body s

/-- A request enters service and is taken (R180): its reply is fixed, and the transmitter waits (R182). -/
def State.takeRequest (s : State) (r : Request) : State :=
  let (reply, t) := serve r s
  t.withLine { t.line with inService := some ⟨r.kind, reply.result, reply.body⟩, transmitter := .waiting, replyWait := 0 }

/-- A complete frame addressed to this part (R179): into service, into the hold, or discarded. -/
def State.deliver (s : State) (r : Request) : State :=
  match s.line.inService, s.line.held with
  | none, _ => s.takeRequest r
  | some _, none => s.withLine { s.line with held := some r }
  | some _, some _ => s

/-- The port listens: the load has ended (R174, R187). -/
def State.listening (s : State) : Bool := s.power.phase = .listening

/-- A frame in assembly is dropped (R176). -/
def State.dropFrame (s : State) : State := s.withLine { s.line with assembly := .unaddressed, gap := 0 }

/-- A whole addressed frame of a request arrives (log 4): its address character drops any frame in assembly (R176), a
LEN above 64 discards it (R177), and its completion hands it to request service (R179). A port that does not listen
(R187) or has no station of its own (R174) takes none. -/
def State.arrive (s : State) (kind : Nat) (body : List Byte) : State :=
  if !s.listening || s.line.station = 0 then s
  else if body.length > Config.maxBody then s.dropFrame
  else s.dropFrame.deliver ⟨kind, body⟩

/-! ## Replies -/

/-- The address character of a reply: station and direction 1 (R181). -/
def replyAddress (station : BitVec 4) : Character := BitVec.ofNat 9 (256 + 128 + station.toNat)

/-- A data character: the ninth bit is 0 (12.1). -/
def dataCharacterOf (b : Byte) : Character := BitVec.ofNat 9 b.toNat

/-- The characters of a reply frame (R181): address, LEN, KIND + 128, RESULT, body, CHECK. -/
def replyCharacters (station : BitVec 4) (r : Service) : List Character :=
  let bytes := byteField (r.body.length + 2) ++ byteField (r.kind + 128) ++ byteField r.result.code ++ r.body
  replyAddress station :: (withCheck 0 bytes).map dataCharacterOf

/-- The reply begins (R182). -/
def State.beginReply (s : State) : State :=
  match s.line.transmitter, s.line.inService with
  | .waiting, some r => s.withLine { s.line with transmitter := .sending (replyCharacters s.line.station r) }
  | _, _ => s

/-- A request leaves service; a held request enters service at once (R179, R182). -/
def State.leaveService (s : State) : State :=
  let free := s.withLine { s.line with inService := none, held := none, transmitter := .idle, replyWait := 0 }
  match s.line.held with
  | none => free
  | some r => free.takeRequest r

/-- The addressed Restart takes effect (R185): the held request and the frame in assembly are discarded, nothing is in
service, and every other block takes the Restart. -/
def State.takeRestart (s : State) : State :=
  (s.withLine
    { s.line with
      assembly := .unaddressed, gap := 0, inService := none, held := none, transmitter := .idle
      replyWait := 0 }).restartBlocks

/-- The reply's CHECK has been sent (R179, R185). -/
def State.endReply (s : State) : State :=
  match s.line.transmitter, s.line.inService with
  | .sending _, some r =>
    if r.kind = kindRestart ∧ r.result = .done then s.takeRestart else s.leaveService
  | _, _ => s

/-! ## Broadcasts -/

/-- A broadcast Restart takes effect (R186): the held request is discarded, the request in service stays. -/
def State.broadcastRestart (s : State) : State := (s.withLine { s.line with held := none }).restartBlocks

/-- A complete broadcast frame (R183): Stop and Restart with no body are taken, any other is ignored. -/
def State.takeBroadcast (s : State) (kind : Nat) (body : List Byte) : State :=
  if kind = kindStop ∧ body = [] then s.takeStop
  else if kind = kindRestart ∧ body = [] then s.broadcastRestart
  else s

/-! ## Frame assembly -/

/-- The station of an address character (10.2). -/
def addressStation (bits : Byte) : BitVec 4 := bits.extractLsb' 0 4

/-- The direction of an address character: true from a stand (10.2). -/
def addressFromStand (bits : Byte) : Bool := bits.getLsbD 7

/-- A good address character at a listening port (R175, R176). -/
def LinePort.takeAddress (l : LinePort) (bits : Byte) : LinePort :=
  if addressFromStand bits then l
  else if addressStation bits = 0 then { l with assembly := .expectLen true, gap := 0 }
  else if addressStation bits = l.station then { l with assembly := .expectLen false, gap := 0 }
  else { l with assembly := .unaddressed, gap := 0 }

/-- A frame is complete in its form (R177, R179, R183): KIND is its first byte. -/
def State.completeFrame (s : State) (toAll : Bool) (bytes : List Byte) : State :=
  match bytes with
  | [] => s
  | kind :: body => if toAll then s.takeBroadcast kind.toNat body else s.deliver ⟨kind.toNat, body⟩

/-- A good data character at a listening port (R176, R177). -/
def State.takeData (s : State) (b : Byte) : State :=
  match s.line.assembly with
  | .unaddressed => s
  | .expectLen toAll =>
    if b = 0 ∨ b.toNat > 64 then s.dropFrame
    else s.withLine { s.line with assembly := .collecting toAll b.toNat [] b, gap := 0 }
  | .collecting toAll len bytes sum =>
    let more := bytes ++ [b]
    s.withLine
      { s.line with
        assembly := if more.length = len then .expectCheck toAll more (sum + b) else .collecting toAll len more (sum + b)
        gap := 0 }
  | .expectCheck toAll bytes sum =>
    if sum + b = 0 then s.dropFrame.completeFrame toAll bytes else s.dropFrame

end Sys2Proof.Machine
end

