-- ==== Sys2Proof/Machine/Events.lean ====
section
/-! DEFINITION. The meanings of the rows that are events of the stand line, of power, RESET and the store, of switches
and buttons, of magazine and film, of lightings but for the end of an order's pass (Machine/Meetings.lean), and of the
label printer. An event that cannot occur in the state it meets changes nothing (log 3). -/

namespace Sys2Proof.Machine

/-! ## The stand line -/

/-- A whole broadcast Stop frame arrives (R183). -/
def execBroadcastStop (s : State) : Host.Outcome State Fault Refusal :=
  .next (if s.listening then s.dropFrame.takeBroadcast kindStop [] else s)

/-- A whole broadcast Restart frame arrives (R183, R186). -/
def execBroadcastRestart (s : State) : Host.Outcome State Fault Refusal :=
  .next (if s.listening then s.dropFrame.takeBroadcast kindRestart [] else s)

/-- A good address character (R175, R176). -/
def execAddressCharacter (bits : Byte) (s : State) : Host.Outcome State Fault Refusal :=
  .next (if s.listening then s.withLine (s.line.takeAddress bits) else s)

/-- A good data character (R177). -/
def execDataCharacter (byte : Byte) (s : State) : Host.Outcome State Fault Refusal :=
  .next (if s.listening then s.takeData byte else s)

/-- A bad character discards the frame in assembly (R178). -/
def execBadCharacter (s : State) : Host.Outcome State Fault Refusal := .next (if s.listening then s.dropFrame else s)

/-- The gap count passes 20 ms: the frame in assembly is discarded (R178). -/
def execGapTimeout (s : State) : Host.Outcome State Fault Refusal := .next (if s.listening then s.dropFrame else s)

/-- The reply begins (R182); a port that does not listen sends none (R187). -/
def execReplyBegin (s : State) : Host.Outcome State Fault Refusal := .next (if s.listening then s.beginReply else s)

/-- The reply's CHECK has been sent (R179, R185, R187). -/
def execReplyEnd (s : State) : Host.Outcome State Fault Refusal := .next (if s.listening then s.endReply else s)

/-! ## Power, RESET and the store -/

/-- Power-on (R163): power-on values, and the load when RESET is high. -/
def execPowerOn (s : State) : Host.Outcome State Fault Refusal := .next s.takeReset

/-- Power loss (R171). -/
def execPowerLoss (torn : List Byte) (s : State) : Host.Outcome State Fault Refusal := .next (s.losePower torn)

/-- A fall of RESET (R169): at once when the engine is IDLE, deferred when it is WRITING; without power, the level. -/
def State.fallReset (s : State) : State :=
  let low := s.withPower { s.power with resetHigh := false }
  if s.power.phase = .off then low
  else if s.store.engine.isSome then low.withStore { low.store with resetPending := true }
  else low.takeReset

/-- A fall of RESET. -/
def execResetFall (s : State) : Host.Outcome State Fault Refusal := .next s.fallReset

/-- RESET returns high (R170): a part held by it begins the load. -/
def State.riseReset (s : State) : State :=
  let high := s.withPower { s.power with resetHigh := true }
  if s.power.phase = .held then high.beginLoad else high

/-- A rise of RESET. -/
def execResetRise (s : State) : Host.Outcome State Fault Refusal := .next s.riseReset

/-- The end of the load (R163, R174). -/
def execLoadEnd (station : BitVec 4) (rate : BitVec 2) (s : State) : Host.Outcome State Fault Refusal :=
  .next (if s.power.phase = .loading then s.endLoad station rate else s)

/-- The end of a place write (R166, R169). -/
def execWriteEnd (s : State) : Host.Outcome State Fault Refusal :=
  .next (match s.store.engine with
    | none => s
    | some w => s.endWrite w)

/-! ## Switches and buttons -/

/-- The gate switch changes level (R67). -/
def execGateSwitchChange (closed : Bool) (s : State) : Host.Outcome State Fault Refusal :=
  .next (s.changeGateSwitch closed)

/-- The gate level has been held 30 ms (R67, R68). -/
def execGateChange (s : State) : Host.Outcome State Fault Refusal :=
  .next (if s.exposure.gate.count.isSome then s.changeGate else s)

/-- The KEY switch changes level (R141). -/
def execKeySwitchChange (closed : Bool) (s : State) : Host.Outcome State Fault Refusal :=
  .next (s.withAccounts
    { s.accounts with key := if s.running then s.accounts.key.change closed else s.accounts.key.unread closed })

/-- The KEY level has been held 30 ms (R141). -/
def execKeyReadingChange (s : State) : Host.Outcome State Fault Refusal :=
  .next (if s.accounts.key.count.isSome then s.withAccounts { s.accounts with key := s.accounts.key.taken } else s)

/-- A button's switch. -/
def Panel.button (p : Panel) : Button → Debounce
  | .start => p.start
  | .stop => p.stop
  | .rewind => p.rewind

/-- A button's switch replaced. -/
def Panel.withButton (p : Panel) (b : Button) (d : Debounce) : Panel :=
  match b with
  | .start => { p with start := d }
  | .stop => { p with stop := d }
  | .rewind => { p with rewind := d }

/-- A panel button changes level (R195). -/
def execButtonLevelChange (button : Button) (closed : Bool) (s : State) : Host.Outcome State Fault Refusal :=
  let d := s.panel.button button
  .next (s.withPanel (s.panel.withButton button (if s.running then d.change closed else d.unread closed)))

/-- A button's level held 30 ms changes its reading (R195). -/
def State.takeButton (s : State) (b : Button) : State := s.withPanel (s.panel.withButton b (s.panel.button b).taken)

/-- A button's count of its closed level is running: 30 ms of it make a press (R195). -/
def State.pressing (s : State) (b : Button) : Bool := (s.panel.button b).count.isSome && (s.panel.button b).level

/-- A debounced START press is a Start (R6, R9, R195). -/
def execStartPress (s : State) : Host.Outcome State Fault Refusal :=
  .next (if s.pressing .start then (s.takeButton .start).takeStartPress else s)

/-- A debounced STOP press is a Stop (R20, R195). -/
def execStopPress (s : State) : Host.Outcome State Fault Refusal :=
  .next (if s.pressing .stop then (s.takeButton .stop).takeStop else s)

/-- A debounced REWIND press is a Rewind (R94, R195). -/
def execRewindPress (s : State) : Host.Outcome State Fault Refusal :=
  .next (if s.pressing .rewind then (s.takeButton .rewind).takeRewindPress else s)

/-- A debounced release (R195): the reading alone changes. -/
def execButtonRelease (button : Button) (s : State) : Host.Outcome State Fault Refusal :=
  .next (if (s.panel.button button).count.isSome && !(s.panel.button button).level then s.takeButton button else s)

/-! ## Magazine and film -/

/-- A detect contact changes (R78, R80, R82, R83). -/
def execDetectReadingChange (contact1 contact2 : Bool) (s : State) : Host.Outcome State Fault Refusal :=
  .next (s.withTransport
    (if s.running then s.transport.changeContacts contact1 contact2
     else { s.transport with detect1 := contact1, detect2 := contact2 }))

/-- BOTH has held 100 ms in SEATING (R81). -/
def execMagazineSeated (code1 code2 : Bool) (s : State) : Host.Outcome State Fault Refusal :=
  .next (if s.transport.state = .seating ∧ s.transport.reading = .both then s.seatMagazine (codedKind code1 code2) else s)

/-- ONE has held more than 500 ms in SEATING (R82). -/
def execMisseated (s : State) : Host.Outcome State Fault Refusal :=
  .next (if s.transport.state = .seating ∧ s.transport.reading = .one then
      (s.withTransport { s.transport with state := .misseated }).raise .magazine
    else s)

/-- NONE has held 30 ms in SEATING or MISSEATED (R80, R82). -/
def execSeatingEmpty (s : State) : Host.Outcome State Fault Refusal :=
  .next (match s.transport.state, s.transport.reading with
    | .seating, .none => s.unseat s.transport.fromMisseated
    | .misseated, .none => s.unseat true
    | _, _ => s)

/-- A reading other than BOTH has held 30 ms with a magazine seated (R83, R84). -/
def execMagazineRemoval (s : State) : Host.Outcome State Fault Refusal :=
  .next (if s.transport.reading = .both then s else s.removeMagazine)

/-- A pulse on PERF (R86, R88, R91). -/
def execPerforationPulse (s : State) : Host.Outcome State Fault Refusal := .next s.takePulse

/-- 400 ms quiet in the leader (R89). -/
def execLeaderStall (s : State) : Host.Outcome State Fault Refusal :=
  .next (if s.transport.state = .leader then s.stallLeader else s)

/-- 400 ms quiet in an advance (R92). -/
def execAdvanceStall (s : State) : Host.Outcome State Fault Refusal :=
  .next (if s.transport.state = .advancing then s.stallAdvance else s)

/-- 600 ms quiet after a pulse in a rewind (R95, R97). -/
def execRewindEnd (s : State) : Host.Outcome State Fault Refusal :=
  .next (if s.transport.state = .rewinding ∧ s.transport.pulseSeen = true then s.endRewind else s)

/-- 1000 ms without a pulse in a rewind (R96, R97). -/
def execRewindJam (s : State) : Host.Outcome State Fault Refusal :=
  .next (if s.transport.state = .rewinding ∧ s.transport.pulseSeen = false then s.jamRewind else s)

/-! ## Lightings -/

/-- A settle under way ends (R64). -/
def State.settleOver (s : State) : State :=
  match s.exposure.state, s.exposure.purpose with
  | .settle, some p => s.endSettle p
  | _, _ => s

/-- The settle time has run out (R64). -/
def execSettleEnd (s : State) : Host.Outcome State Fault Refusal := .next s.settleOver

/-- The exposure time has run out (R65). -/
def execExposureTimeEnd (s : State) : Host.Outcome State Fault Refusal :=
  .next (match s.exposure.state, s.exposure.purpose with
    | .expose, some (.exposure _ time) => s.endExposure time
    | _, _ => s)

/-- A group of the lamp watch has ended (R34, R35). -/
def execWatchGroupEnd (c1 c2 c3 c4 : Conversion) (s : State) : Host.Outcome State Fault Refusal :=
  .next (match s.metering.state, s.exposure.purpose with
    | .watch, some (.exposure step time) => s.endWatchGroup step time (averageReading c1 c2 c3 c4)
    | _, _ => s)

/-- The fourth scan of a Meter Test has ended (R42). -/
def execTestPassEnd (s1 s2 s3 s4 : Scan) (s : State) : Host.Outcome State Fault Refusal :=
  .next (match s.metering.state, s.metering.test with
    | .test, some t => s.endTestPass t (passAverages s1 s2 s3 s4)
    | _, _ => s)

/-- A calibration stage has ended (R38, R39): the unit converts, in METER. -/
def execCalibrationStageEnd (s1 s2 s3 s4 : Scan) (s : State) : Host.Outcome State Fault Refusal :=
  .next (match s.exposure.state, s.exposure.purpose, s.metering.calibrating with
    | .meter, some .calibration, some r => s.endCalibrationStage r (passAverages s1 s2 s3 s4)
    | _, _, _ => s)

/-! ## The label printer -/

/-- PRN_BUSY is low after the strobe: the byte is taken (R127). -/
def execByteTaken (s : State) : Host.Outcome State Fault Refusal := .next s.takeByte

/-- A wait for PRN_BUSY has reached 10 s in SENDING (R128). -/
def execBusyTimeout (s : State) : Host.Outcome State Fault Refusal :=
  .next (match s.labels.printer with
    | .sending _ _ => s.printerFails (.faulted .busyTimeout)
    | .idle | .feeding _ _ | .stockOut | .faulted _ => s)

/-- A FED pulse (R129, R130). -/
def execFedPulse (s : State) : Host.Outcome State Fault Refusal := .next s.takeFed

/-- The FED wait has reached 5 s in FEEDING (R129). -/
def execFedTimeout (s : State) : Host.Outcome State Fault Refusal :=
  .next (match s.labels.printer with
    | .feeding _ _ => s.printerFails (.faulted .fedTimeout)
    | .idle | .sending _ _ | .stockOut | .faulted _ => s)

/-- PRN_STOCK falls (R131). -/
def execPrnStockFall (s : State) : Host.Outcome State Fault Refusal :=
  let low := s.withLabels { s.labels with stockHigh := false }
  .next (if s.running then low.printerFails .stockOut else low)

/-- PRN_FAULT falls (R132). -/
def execPrnFaultFall (s : State) : Host.Outcome State Fault Refusal :=
  let low := s.withLabels { s.labels with faultHigh := false }
  .next (if s.running then low.printerFails (.faulted .faultLine) else low)

/-- PRN_STOCK rises: the level alone changes (R131). -/
def execPrnStockRise (s : State) : Host.Outcome State Fault Refusal :=
  .next (s.withLabels { s.labels with stockHigh := true })

/-- PRN_FAULT rises: the level alone changes (R132). -/
def execPrnFaultRise (s : State) : Host.Outcome State Fault Refusal :=
  .next (s.withLabels { s.labels with faultHigh := true })

end Sys2Proof.Machine
end

