-- ==== Sys2Proof/Machine/Requests.lean ====
section
/-! DEFINITION. The meanings of the 32 request rows: a whole addressed frame of the kind, with the body given, arrives at
the port (R179, log 4). Taken at once when nothing is in service (R180), it is answered by the owner's `serve…`. -/

namespace Sys2Proof.Machine

/-- Status (R193). -/
def execStatus (body : List Byte) (s : State) : Host.Outcome State Fault Refusal := .next (s.arrive kindStatus body)

/-- Set Notice Enable (R191). -/
def execSetNoticeEnable (body : List Byte) (s : State) : Host.Outcome State Fault Refusal := .next (s.arrive kindSetNoticeEnable body)

/-- Clear Notice Enable (R191). -/
def execClearNoticeEnable (body : List Byte) (s : State) : Host.Outcome State Fault Refusal := .next (s.arrive kindClearNoticeEnable body)

/-- Clear Notices (R192). -/
def execClearNotices (body : List Byte) (s : State) : Host.Outcome State Fault Refusal := .next (s.arrive kindClearNotices body)

/-- Restart (R185): answered DONE, its effect deferred to the end of the reply. -/
def execRestart (body : List Byte) (s : State) : Host.Outcome State Fault Refusal := .next (s.arrive kindRestart body)

/-- Stop (R20). -/
def execStop (body : List Byte) (s : State) : Host.Outcome State Fault Refusal := .next (s.arrive kindStop body)

/-- Submit Order (R4, R5). -/
def execSubmitOrder (body : List Byte) (s : State) : Host.Outcome State Fault Refusal := .next (s.arrive kindSubmitOrder body)

/-- Cancel Order (R17, R21). -/
def execCancelOrder (body : List Byte) (s : State) : Host.Outcome State Fault Refusal := .next (s.arrive kindCancelOrder body)

/-- Order Report (R25). -/
def execOrderReport (body : List Byte) (s : State) : Host.Outcome State Fault Refusal := .next (s.arrive kindOrderReport body)

/-- Retire Order (R26). -/
def execRetireOrder (body : List Byte) (s : State) : Host.Outcome State Fault Refusal := .next (s.arrive kindRetireOrder body)

/-- Start (R6 to R10). -/
def execStart (body : List Byte) (s : State) : Host.Outcome State Fault Refusal := .next (s.arrive kindStart body)

/-- Set Library Mark (R119). -/
def execSetLibraryMark (body : List Byte) (s : State) : Host.Outcome State Fault Refusal := .next (s.arrive kindSetLibraryMark body)

/-- Label Status (R136). -/
def execLabelStatus (body : List Byte) (s : State) : Host.Outcome State Fault Refusal := .next (s.arrive kindLabelStatus body)

/-- Resume Printer (R135). -/
def execResumePrinter (body : List Byte) (s : State) : Host.Outcome State Fault Refusal := .next (s.arrive kindResumePrinter body)

/-- Declare Roll (R87, R102). -/
def execDeclareRoll (body : List Byte) (s : State) : Host.Outcome State Fault Refusal := .next (s.arrive kindDeclareRoll body)

/-- Rewind (R94). -/
def execRewind (body : List Byte) (s : State) : Host.Outcome State Fault Refusal := .next (s.arrive kindRewind body)

/-- Roll Report (R117). -/
def execRollReport (body : List Byte) (s : State) : Host.Outcome State Fault Refusal := .next (s.arrive kindRollReport body)

/-- Keep Report (R111 to R113). -/
def execKeepReport (body : List Byte) (s : State) : Host.Outcome State Fault Refusal := .next (s.arrive kindKeepReport body)

/-- Close Roll (R115). -/
def execCloseRoll (body : List Byte) (s : State) : Host.Outcome State Fault Refusal := .next (s.arrive kindCloseRoll body)

/-- Set Film Kind (R45). -/
def execSetFilmKind (body : List Byte) (s : State) : Host.Outcome State Fault Refusal := .next (s.arrive kindSetFilmKind body)

/-- Read Film Kind (R46). -/
def execReadFilmKind (body : List Byte) (s : State) : Host.Outcome State Fault Refusal := .next (s.arrive kindReadFilmKind body)

/-- Set Stand Calibration (R75). -/
def execSetStandCalibration (body : List Byte) (s : State) : Host.Outcome State Fault Refusal := .next (s.arrive kindSetStandCalibration body)

/-- Read Stand Calibration (R76). -/
def execReadStandCalibration (body : List Byte) (s : State) : Host.Outcome State Fault Refusal := .next (s.arrive kindReadStandCalibration body)

/-- Calibrate Lamp (R37). -/
def execCalibrateLamp (body : List Byte) (s : State) : Host.Outcome State Fault Refusal := .next (s.arrive kindCalibrateLamp body)

/-- Meter Test (R41). -/
def execMeterTest (body : List Byte) (s : State) : Host.Outcome State Fault Refusal := .next (s.arrive kindMeterTest body)

/-- Read Metering (R33). -/
def execReadMetering (body : List Byte) (s : State) : Host.Outcome State Fault Refusal := .next (s.arrive kindReadMetering body)

/-- Set Account (R154, R155). -/
def execSetAccount (body : List Byte) (s : State) : Host.Outcome State Fault Refusal := .next (s.arrive kindSetAccount body)

/-- Account Report (R158). -/
def execAccountReport (body : List Byte) (s : State) : Host.Outcome State Fault Refusal := .next (s.arrive kindAccountReport body)

/-- Close Account (R156). -/
def execCloseAccount (body : List Byte) (s : State) : Host.Outcome State Fault Refusal := .next (s.arrive kindCloseAccount body)

/-- Reset Period (R157). -/
def execResetPeriod (body : List Byte) (s : State) : Host.Outcome State Fault Refusal := .next (s.arrive kindResetPeriod body)

/-- Set Rates (R143). -/
def execSetRates (body : List Byte) (s : State) : Host.Outcome State Fault Refusal := .next (s.arrive kindSetRates body)

/-- Read Rates (R144). -/
def execReadRates (body : List Byte) (s : State) : Host.Outcome State Fault Refusal := .next (s.arrive kindReadRates body)

end Sys2Proof.Machine
end

