-- ==== Sys2Proof/Machine/Meetings.lean ====
section
/-! DEFINITION. The end of an order's pass, and what falls at the same moment: a cause of R73 that meets it finds the unit
IDLE and the first frame not yet begun (log 33). -/

namespace Sys2Proof.Machine

/-- The rows that can bring a cause of R73: gate opening, Stop, Cancel Order, magazine removal and Restart, as requests,
broadcasts, characters, presses, or at the end of a reply. -/
def bringsCause : Instr → Bool
  | .gateChange | .magazineRemoval | .stopPress | .broadcastStop | .broadcastRestart | .replyEnd | .dataCharacter _ => true
  | .stop _ | .cancelOrder _ => true
  | _ => false

/-- What a waiting command makes of the part while the first frame is not yet begun: its own meaning, but for the end of a
pass and of the frame's settle, which fall later. -/
def whileWaiting (c : Instr) (s : State) : Option (Host.Outcome State Fault Refusal) :=
  match c with
  | .status body => some (execStatus body s)
  | .setNoticeEnable body => some (execSetNoticeEnable body s)
  | .clearNoticeEnable body => some (execClearNoticeEnable body s)
  | .clearNotices body => some (execClearNotices body s)
  | .restart body => some (execRestart body s)
  | .stop body => some (execStop body s)
  | .submitOrder body => some (execSubmitOrder body s)
  | .cancelOrder body => some (execCancelOrder body s)
  | .orderReport body => some (execOrderReport body s)
  | .retireOrder body => some (execRetireOrder body s)
  | .start body => some (execStart body s)
  | .setLibraryMark body => some (execSetLibraryMark body s)
  | .labelStatus body => some (execLabelStatus body s)
  | .resumePrinter body => some (execResumePrinter body s)
  | .declareRoll body => some (execDeclareRoll body s)
  | .rewind body => some (execRewind body s)
  | .rollReport body => some (execRollReport body s)
  | .keepReport body => some (execKeepReport body s)
  | .closeRoll body => some (execCloseRoll body s)
  | .setFilmKind body => some (execSetFilmKind body s)
  | .readFilmKind body => some (execReadFilmKind body s)
  | .setStandCalibration body => some (execSetStandCalibration body s)
  | .readStandCalibration body => some (execReadStandCalibration body s)
  | .calibrateLamp body => some (execCalibrateLamp body s)
  | .meterTest body => some (execMeterTest body s)
  | .readMetering body => some (execReadMetering body s)
  | .setAccount body => some (execSetAccount body s)
  | .accountReport body => some (execAccountReport body s)
  | .closeAccount body => some (execCloseAccount body s)
  | .resetPeriod body => some (execResetPeriod body s)
  | .setRates body => some (execSetRates body s)
  | .readRates body => some (execReadRates body s)
  | .broadcastStop => some (execBroadcastStop s)
  | .broadcastRestart => some (execBroadcastRestart s)
  | .addressCharacter bits => some (execAddressCharacter bits s)
  | .dataCharacter byte => some (execDataCharacter byte s)
  | .badCharacter => some (execBadCharacter s)
  | .gapTimeout => some (execGapTimeout s)
  | .replyBegin => some (execReplyBegin s)
  | .replyEnd => some (execReplyEnd s)
  | .powerOn => some (execPowerOn s)
  | .powerLoss torn => some (execPowerLoss torn s)
  | .resetFall => some (execResetFall s)
  | .resetRise => some (execResetRise s)
  | .loadEnd station rate => some (execLoadEnd station rate s)
  | .writeEnd => some (execWriteEnd s)
  | .gateSwitchChange closed => some (execGateSwitchChange closed s)
  | .gateChange => some (execGateChange s)
  | .keySwitchChange closed => some (execKeySwitchChange closed s)
  | .keyReadingChange => some (execKeyReadingChange s)
  | .buttonLevelChange button closed => some (execButtonLevelChange button closed s)
  | .startPress => some (execStartPress s)
  | .stopPress => some (execStopPress s)
  | .rewindPress => some (execRewindPress s)
  | .exposureTimeEnd => some (execExposureTimeEnd s)
  | .watchGroupEnd c1 c2 c3 c4 => some (execWatchGroupEnd c1 c2 c3 c4 s)
  | .settleEnd | .orderPassEnd _ _ _ _ => none
  | .testPassEnd s1 s2 s3 s4 => some (execTestPassEnd s1 s2 s3 s4 s)
  | .calibrationStageEnd s1 s2 s3 s4 => some (execCalibrationStageEnd s1 s2 s3 s4 s)
  | .detectReadingChange contact1 contact2 => some (execDetectReadingChange contact1 contact2 s)
  | .magazineSeated code1 code2 => some (execMagazineSeated code1 code2 s)
  | .misseated => some (execMisseated s)
  | .seatingEmpty => some (execSeatingEmpty s)
  | .magazineRemoval => some (execMagazineRemoval s)
  | .perforationPulse => some (execPerforationPulse s)
  | .leaderStall => some (execLeaderStall s)
  | .advanceStall => some (execAdvanceStall s)
  | .rewindEnd => some (execRewindEnd s)
  | .rewindJam => some (execRewindJam s)
  | .byteTaken => some (execByteTaken s)
  | .busyTimeout => some (execBusyTimeout s)
  | .fedPulse => some (execFedPulse s)
  | .fedTimeout => some (execFedTimeout s)
  | .prnStockFall => some (execPrnStockFall s)
  | .prnFaultFall => some (execPrnFaultFall s)
  | .buttonRelease button => some (execButtonRelease button s)
  | .prnStockRise => some (execPrnStockRise s)
  | .prnFaultRise => some (execPrnFaultRise s)

/-! ## What can fall at one moment -/

/-- The rows that end something received on the stand line: of them one can fall at a moment (R173). -/
def receives : Instr → Bool
  | .status _ | .setNoticeEnable _ | .clearNoticeEnable _ | .clearNotices _ | .restart _ | .stop _ | .submitOrder _ => true
  | .cancelOrder _ | .orderReport _ | .retireOrder _ | .start _ | .setLibraryMark _ | .labelStatus _ => true
  | .resumePrinter _ | .declareRoll _ | .rewind _ | .rollReport _ | .keepReport _ | .closeRoll _ | .setFilmKind _ => true
  | .readFilmKind _ | .setStandCalibration _ | .readStandCalibration _ | .calibrateLamp _ | .meterTest _ => true
  | .readMetering _ | .setAccount _ | .accountReport _ | .closeAccount _ | .resetPeriod _ | .setRates _ | .readRates _ => true
  | .broadcastStop | .broadcastRestart | .addressCharacter _ | .dataCharacter _ | .badCharacter => true
  | _ => false

/-- The rows of the reply transmitter: of them one can fall at a moment (R182). -/
def sends : Instr → Bool
  | .replyBegin | .replyEnd => true
  | _ => false

/-- A count of a switch that has not yet run its 30 ms. -/
def Debounce.short (d : Debounce) : Bool := d.count.any fun n => n < Config.debounceTime

/-- A command that waits tells that time has passed: the count it ends has not yet run out in the state it meets, so it
falls later than the moment (R67, R83, R128, R129, R141, R166, R178, R182, R195), or it ends the settle of the frame itself,
or another pass. The rows of a magazine's seating and of a running motor cannot occur with the transport READY. -/
def tellsTime (c : Instr) (s : State) : Bool :=
  match c with
  | .settleEnd | .orderPassEnd _ _ _ _ => true
  | .gateChange => s.exposure.gate.short
  | .keyReadingChange => s.accounts.key.short
  | .startPress => s.panel.start.short
  | .stopPress => s.panel.stop.short
  | .rewindPress => s.panel.rewind.short
  | .buttonRelease b => (s.panel.button b).short
  | .magazineRemoval => s.transport.openFor.any fun n => n < Config.removalTime
  | .gapTimeout => s.line.assembly ≠ .unaddressed && s.line.gap < Config.gapLimit
  | .replyBegin => s.line.transmitter = .waiting && s.line.replyWait = 0
  | .writeEnd => s.store.engine.any fun w => w.elapsed < Config.writeTime
  | .busyTimeout | .fedTimeout =>
    match s.labels.printer with
    | .sending _ _ => s.labels.wait < Config.busyLimit
    | .feeding _ _ => s.labels.wait < Config.fedLimit
    | .idle | .stockOut | .faulted _ => false
  | _ => false

/-! ## Causes that meet the end of the pass -/

/-- What a cause of R73 changes of the active order: it finishes the order, or marks it as cancelled (R19 to R23). -/
def State.course (s : State) : Option (OrderState × Bool) := s.activeOrder.map fun o => (o.state, o.cancelRequested)

/-- What meets the end of a pass: nothing, a Cancel Order that marks the order, or a cause that finishes it. -/
inductive Meeting where
  | nothing
  | cancel
  | ending
  deriving DecidableEq, Repr

/-- The causes of R73 that fall at the moment of the scan's end: the waiting commands are taken one after the other, up to
the first that falls later. `received` and `sent`: a row of the receiver, of the transmitter, has fallen at the moment. -/
def causeMet (received sent : Bool) (met : Meeting) : List Instr → State → Meeting
  | [], _ => met
  | c :: rest, s =>
    if tellsTime c s || (received && receives c) || (sent && sends c) then met
    else match whileWaiting c s with
      | some (.next t) =>
        if t.course = s.course then causeMet (received || receives c) (sent || sends c) met rest t
        else if !bringsCause c then met
        else if t.activeOrder.isSome then causeMet (received || receives c) (sent || sends c) .cancel rest t
        else .ending
      | some (.fault _) | some (.refused _) | none => met

/-- The first frame of an order that entered EXPOSING begins in the same step (R11, R12), unless a cause meets the end of
the scan: that cause finds the unit IDLE and the frame not yet begun (R19, R73). Behind a Cancel Order the frame begins.
DEDUCED, unsafe (log 33): a cause meets the end when it waits and falls at the same moment. -/
def State.beginFirstFrame (s : State) : State :=
  match s.activeOrder with
  | none => s
  | some o =>
    if o.state ≠ .exposing then s
    else match causeMet false false .nothing s.pending s with
      | .nothing => s.beginFrame o.id
      | .cancel => s.withExposure { s.exposure with frameWaits := true }
      | .ending => s

/-- The fourth scan of the active order's pass has ended (R31, R11, R12, R73). -/
def execOrderPassEnd (s1 s2 s3 s4 : Scan) (s : State) : Host.Outcome State Fault Refusal :=
  .next (match s.metering.state, s.exposure.purpose with
    | .pass, some .orderPass => (s.endOrderPass (passAverages s1 s2 s3 s4)).beginFirstFrame
    | _, _ => s)

end Sys2Proof.Machine
end

