-- ==== Sys2Proof/Machine/Dispatch.lean ====
section
/-! DEFINITION. One arm for each command: its meaning. -/

namespace Sys2Proof.Machine

def exec (i : Instr) (s : State) : Host.Outcome State Fault Refusal :=
  match i with
  | .status body => Sys2Proof.Machine.execStatus body s
  | .setNoticeEnable body => Sys2Proof.Machine.execSetNoticeEnable body s
  | .clearNoticeEnable body => Sys2Proof.Machine.execClearNoticeEnable body s
  | .clearNotices body => Sys2Proof.Machine.execClearNotices body s
  | .restart body => Sys2Proof.Machine.execRestart body s
  | .stop body => Sys2Proof.Machine.execStop body s
  | .submitOrder body => Sys2Proof.Machine.execSubmitOrder body s
  | .cancelOrder body => Sys2Proof.Machine.execCancelOrder body s
  | .orderReport body => Sys2Proof.Machine.execOrderReport body s
  | .retireOrder body => Sys2Proof.Machine.execRetireOrder body s
  | .start body => Sys2Proof.Machine.execStart body s
  | .setLibraryMark body => Sys2Proof.Machine.execSetLibraryMark body s
  | .labelStatus body => Sys2Proof.Machine.execLabelStatus body s
  | .resumePrinter body => Sys2Proof.Machine.execResumePrinter body s
  | .declareRoll body => Sys2Proof.Machine.execDeclareRoll body s
  | .rewind body => Sys2Proof.Machine.execRewind body s
  | .rollReport body => Sys2Proof.Machine.execRollReport body s
  | .keepReport body => Sys2Proof.Machine.execKeepReport body s
  | .closeRoll body => Sys2Proof.Machine.execCloseRoll body s
  | .setFilmKind body => Sys2Proof.Machine.execSetFilmKind body s
  | .readFilmKind body => Sys2Proof.Machine.execReadFilmKind body s
  | .setStandCalibration body => Sys2Proof.Machine.execSetStandCalibration body s
  | .readStandCalibration body => Sys2Proof.Machine.execReadStandCalibration body s
  | .calibrateLamp body => Sys2Proof.Machine.execCalibrateLamp body s
  | .meterTest body => Sys2Proof.Machine.execMeterTest body s
  | .readMetering body => Sys2Proof.Machine.execReadMetering body s
  | .setAccount body => Sys2Proof.Machine.execSetAccount body s
  | .accountReport body => Sys2Proof.Machine.execAccountReport body s
  | .closeAccount body => Sys2Proof.Machine.execCloseAccount body s
  | .resetPeriod body => Sys2Proof.Machine.execResetPeriod body s
  | .setRates body => Sys2Proof.Machine.execSetRates body s
  | .readRates body => Sys2Proof.Machine.execReadRates body s
  | .broadcastStop => Sys2Proof.Machine.execBroadcastStop s
  | .broadcastRestart => Sys2Proof.Machine.execBroadcastRestart s
  | .addressCharacter bits => Sys2Proof.Machine.execAddressCharacter bits s
  | .dataCharacter byte => Sys2Proof.Machine.execDataCharacter byte s
  | .badCharacter => Sys2Proof.Machine.execBadCharacter s
  | .gapTimeout => Sys2Proof.Machine.execGapTimeout s
  | .replyBegin => Sys2Proof.Machine.execReplyBegin s
  | .replyEnd => Sys2Proof.Machine.execReplyEnd s
  | .powerOn => Sys2Proof.Machine.execPowerOn s
  | .powerLoss torn => Sys2Proof.Machine.execPowerLoss torn s
  | .resetFall => Sys2Proof.Machine.execResetFall s
  | .resetRise => Sys2Proof.Machine.execResetRise s
  | .loadEnd station rate => Sys2Proof.Machine.execLoadEnd station rate s
  | .writeEnd => Sys2Proof.Machine.execWriteEnd s
  | .gateSwitchChange closed => Sys2Proof.Machine.execGateSwitchChange closed s
  | .gateChange => Sys2Proof.Machine.execGateChange s
  | .keySwitchChange closed => Sys2Proof.Machine.execKeySwitchChange closed s
  | .keyReadingChange => Sys2Proof.Machine.execKeyReadingChange s
  | .buttonLevelChange button closed => Sys2Proof.Machine.execButtonLevelChange button closed s
  | .startPress => Sys2Proof.Machine.execStartPress s
  | .stopPress => Sys2Proof.Machine.execStopPress s
  | .rewindPress => Sys2Proof.Machine.execRewindPress s
  | .settleEnd => Sys2Proof.Machine.execSettleEnd s
  | .exposureTimeEnd => Sys2Proof.Machine.execExposureTimeEnd s
  | .watchGroupEnd c1 c2 c3 c4 => Sys2Proof.Machine.execWatchGroupEnd c1 c2 c3 c4 s
  | .orderPassEnd s1 s2 s3 s4 => Sys2Proof.Machine.execOrderPassEnd s1 s2 s3 s4 s
  | .testPassEnd s1 s2 s3 s4 => Sys2Proof.Machine.execTestPassEnd s1 s2 s3 s4 s
  | .calibrationStageEnd s1 s2 s3 s4 => Sys2Proof.Machine.execCalibrationStageEnd s1 s2 s3 s4 s
  | .detectReadingChange contact1 contact2 => Sys2Proof.Machine.execDetectReadingChange contact1 contact2 s
  | .magazineSeated code1 code2 => Sys2Proof.Machine.execMagazineSeated code1 code2 s
  | .misseated => Sys2Proof.Machine.execMisseated s
  | .seatingEmpty => Sys2Proof.Machine.execSeatingEmpty s
  | .magazineRemoval => Sys2Proof.Machine.execMagazineRemoval s
  | .perforationPulse => Sys2Proof.Machine.execPerforationPulse s
  | .leaderStall => Sys2Proof.Machine.execLeaderStall s
  | .advanceStall => Sys2Proof.Machine.execAdvanceStall s
  | .rewindEnd => Sys2Proof.Machine.execRewindEnd s
  | .rewindJam => Sys2Proof.Machine.execRewindJam s
  | .byteTaken => Sys2Proof.Machine.execByteTaken s
  | .busyTimeout => Sys2Proof.Machine.execBusyTimeout s
  | .fedPulse => Sys2Proof.Machine.execFedPulse s
  | .fedTimeout => Sys2Proof.Machine.execFedTimeout s
  | .prnStockFall => Sys2Proof.Machine.execPrnStockFall s
  | .prnFaultFall => Sys2Proof.Machine.execPrnFaultFall s
  | .buttonRelease button => Sys2Proof.Machine.execButtonRelease button s
  | .prnStockRise => Sys2Proof.Machine.execPrnStockRise s
  | .prnFaultRise => Sys2Proof.Machine.execPrnFaultRise s

end Sys2Proof.Machine
end

