-- ==== Sys2Proof/Machine/Time.lean ====
section
/-! DEFINITION. One tick of the 1 ms time base: what a step does on an empty queue. Every count the rules name moves on
by one ms, and none passes its limit: what happens at a limit is a command of its own (log 1). -/

namespace Sys2Proof.Machine

/-- A count moves on by one ms, and stands at its limit. -/
def countUp (limit n : Nat) : Nat := if n < limit then n + 1 else n

/-- The count of a switch that is being counted (R67, R141, R195). -/
def Debounce.tick (d : Debounce) : Debounce := { d with count := d.count.map (countUp Config.debounceTime) }

/-- The time for which the lamp is lit at its present step, when nothing cuts it short (R28, R38, R64, R65). -/
def State.litLimit (s : State) : Nat :=
  match s.exposure.state with
  | .idle => 0
  | .settle => s.calibration.settle
  | .meter =>
    match s.metering.calibrating with
    | none => passHeat s.calibration
    | some r => stageTime s.calibration r.stages
  | .expose =>
    match s.exposure.purpose with
    | some (.exposure _ time) => s.calibration.settle + time
    | some .orderPass | some .testPass | some .calibration | none => s.calibration.settle

/-- The gate count and the lit time of the step (R67, R69). -/
def State.tickExposure (s : State) : ExposureUnit :=
  { s.exposure with gate := s.exposure.gate.tick, litTime := countUp s.litLimit s.exposure.litTime }

/-- The quiet-time limit of the motor operation under way (R86, R97). -/
def TransportUnit.quietLimit (t : TransportUnit) : Nat :=
  match t.motor, t.state with
  | .off, _ => 0
  | .forward, _ => Config.stallLimit
  | .reverse, _ => if t.pulseSeen then Config.rewindEndLimit else Config.jamLimit

/-- The counts of the detect reading, the removal count and the quiet time (R78, R80 to R83, R86). -/
def TransportUnit.tick (t : TransportUnit) : TransportUnit :=
  { t with
    held := countUp Config.heldLimit t.held, openFor := t.openFor.map (countUp Config.removalTime)
    quietTime := countUp t.quietLimit t.quietTime }

/-- The handshake wait, and the FED wait (R128, R129). A byte that awaits its strobe meets one look at PRN_BUSY (log 34). -/
def LabelUnit.tick (l : LabelUnit) : LabelUnit :=
  match l.printer with
  | .sending _ _ => LabelUnit.offer { l with wait := countUp Config.busyLimit l.wait }
  | .feeding _ _ => { l with wait := countUp Config.fedLimit l.wait }
  | .idle | .stockOut | .faulted _ => l

/-- The gap count of a frame in assembly (R178) and the wait of a reply (R182). -/
def LinePort.tick (l : LinePort) : LinePort :=
  { l with
    gap := if l.assembly = .unaddressed then l.gap else countUp Config.gapLimit l.gap
    replyWait := if l.transmitter = .waiting then countUp Config.replyLimit l.replyWait else l.replyWait }

/-- The write under way (R166). -/
def SettingsStore.tick (t : SettingsStore) : SettingsStore :=
  { t with engine := t.engine.map fun w => { w with elapsed := countUp Config.writeTime w.elapsed } }

/-- The three buttons' counts (R195). -/
def Panel.tick (p : Panel) : Panel := { start := p.start.tick, stop := p.stop.tick, rewind := p.rewind.tick }

/-- Every count that runs moves on by one ms. -/
def State.countMs (s : State) : State :=
  { s with
    line := s.line.tick, exposure := s.tickExposure, transport := s.transport.tick, labels := s.labels.tick
    accounts := { s.accounts with key := s.accounts.key.tick }, store := s.store.tick, panel := s.panel.tick }

/-- One ms passes. Without power, and while RESET holds the part, nothing is counted (R170, R171). -/
def State.tick (s : State) : State :=
  if s.running then s.countMs else s

end Sys2Proof.Machine
end

