-- ==== Sys2Proof/Machine/Step.lean ====
section
/-! DEFINITION. One step of the part: the command at the front of the queue, or, when none waits, one tick of the 1 ms
time base (log 1). -/

namespace Sys2Proof.Machine

/-- A step (log 1). -/
def step (s : State) : Host.Outcome State Fault Refusal :=
  match s.pending with
  | [] => .next s.tick
  | c :: rest => exec c (s.withPending rest)

/-- A command at the front of the queue. -/
def State.withCommand (s : State) (c : Instr) : State := s.withPending (c :: s.pending)

/-- The command that a table word spells at the front of the queue; the state unchanged when it spells none. -/
def State.withFetchWord (s : State) (nbits w : Nat) : State :=
  match decodeTableWord nbits w with
  | some c => s.withCommand c
  | none => s

end Sys2Proof.Machine
end

