-- ==== Sys2Proof/Machine/Pins.lean ====
section
/-! DEFINITION. The outputs that follow the state at once: ATTN and the panel's lamps (R190, R194), the motor and
shutter outputs (R65, R86), the printer's data lines and strobe (R118, R127), and the reply wire (R182). -/

namespace Sys2Proof.Machine

/-- ATTN is driven low while the pending and enabled sets share a kind (R190). -/
def State.attnLow (s : State) : Bool := s.notices.shared ≠ 0

/-- LMP_ATTN is lit while ATTN is driven low by this part (R190). -/
def State.attentionLamp (s : State) : Bool := s.attnLow

/-- LMP_READY: the transport is READY, the stand is calibrated and no order is active (R194). -/
def State.readyLamp (s : State) : Bool :=
  s.transport.state = .ready && s.calibration.calibrated && s.orders.active.isNone

/-- LMP_BUSY: an order is in METERING or EXPOSING (R194). -/
def State.busyLamp (s : State) : Bool :=
  s.orders.table.any fun o => o.state = .metering || o.state = .exposing

/-- MOT_FWD (R86). -/
def State.motorForward (s : State) : Bool := s.transport.motor = .forward

/-- MOT_REV (R86). -/
def State.motorReverse (s : State) : Bool := s.transport.motor = .reverse

/-- SHUT is driven while the shutter is open (R65). -/
def State.shutterDriven (s : State) : Bool := s.exposure.shutterOpen

/-- PRN_D0 to PRN_D7 (R127): the byte in turn once it is placed, and low in every other state (R118, R133). -/
def State.printerData (s : State) : Byte := s.labels.dataLines

/-- PRN_STB as it stands between two commands: released, after power-on and RESET (R118) and throughout, since each low
pulse of 5 microseconds is given and released within the step that places its byte (R127, log 19). -/
def State.strobeLow (_s : State) : Bool := false

/-- The low pulses given on PRN_STB for the label being sent: one for each byte taken, and the one of a placed byte. -/
def State.strobesGiven (s : State) : Nat :=
  match s.labels.printer with
  | .sending _ index => if s.labels.strobed then index + 1 else index
  | .feeding label _ => label.length
  | .idle | .stockOut | .faulted _ => 0

/-- LINE_TX carries a reply (R182); otherwise it is released. -/
def State.replying (s : State) : Bool :=
  match s.line.transmitter with
  | .sending _ => true
  | .idle | .waiting => false

end Sys2Proof.Machine
end

