-- ==== Sys2Proof/WellFormed.lean ====
section
/-! DEFINITION. The commands that can reach the part: a request's body fits a frame, a conversion has a reference voltage,
and a cut write leaves no more bytes than a place has. -/

namespace Sys2Proof

/-- A body that a request frame can carry (R177). -/
def bodyOk (body : List Byte) : Bool := body.length ≤ Config.maxBody

/-- A conversion with a reference voltage above 0 (R27). -/
def Conversion.ok (c : Conversion) : Bool := 0 < c.vref

/-- A scan of conversions with a reference voltage. -/
def Scan.ok (s : Scan) : Bool := s.ref.ok && s.red.ok && s.green.ok && s.blue.ok

/-- A cut write leaves at most the bytes of the largest place (R161, R171). -/
def tornOk (torn : List Byte) : Bool := torn.length ≤ Config.placeSize 0

/-- Well-formed commands. -/
def Instr.wf : Instr → Bool
  | .status body => bodyOk body
  | .setNoticeEnable body => bodyOk body
  | .clearNoticeEnable body => bodyOk body
  | .clearNotices body => bodyOk body
  | .restart body => bodyOk body
  | .stop body => bodyOk body
  | .submitOrder body => bodyOk body
  | .cancelOrder body => bodyOk body
  | .orderReport body => bodyOk body
  | .retireOrder body => bodyOk body
  | .start body => bodyOk body
  | .setLibraryMark body => bodyOk body
  | .labelStatus body => bodyOk body
  | .resumePrinter body => bodyOk body
  | .declareRoll body => bodyOk body
  | .rewind body => bodyOk body
  | .rollReport body => bodyOk body
  | .keepReport body => bodyOk body
  | .closeRoll body => bodyOk body
  | .setFilmKind body => bodyOk body
  | .readFilmKind body => bodyOk body
  | .setStandCalibration body => bodyOk body
  | .readStandCalibration body => bodyOk body
  | .calibrateLamp body => bodyOk body
  | .meterTest body => bodyOk body
  | .readMetering body => bodyOk body
  | .setAccount body => bodyOk body
  | .accountReport body => bodyOk body
  | .closeAccount body => bodyOk body
  | .resetPeriod body => bodyOk body
  | .setRates body => bodyOk body
  | .readRates body => bodyOk body
  | .broadcastStop => true
  | .broadcastRestart => true
  | .addressCharacter _ => true
  | .dataCharacter _ => true
  | .badCharacter => true
  | .gapTimeout => true
  | .replyBegin => true
  | .replyEnd => true
  | .powerOn => true
  | .powerLoss torn => tornOk torn
  | .resetFall => true
  | .resetRise => true
  | .loadEnd _ _ => true
  | .writeEnd => true
  | .gateSwitchChange _ => true
  | .gateChange => true
  | .keySwitchChange _ => true
  | .keyReadingChange => true
  | .buttonLevelChange _ _ => true
  | .startPress => true
  | .stopPress => true
  | .rewindPress => true
  | .settleEnd => true
  | .exposureTimeEnd => true
  | .watchGroupEnd c1 c2 c3 c4 => c1.ok && c2.ok && c3.ok && c4.ok
  | .orderPassEnd s1 s2 s3 s4 => s1.ok && s2.ok && s3.ok && s4.ok
  | .testPassEnd s1 s2 s3 s4 => s1.ok && s2.ok && s3.ok && s4.ok
  | .calibrationStageEnd s1 s2 s3 s4 => s1.ok && s2.ok && s3.ok && s4.ok
  | .detectReadingChange _ _ => true
  | .magazineSeated _ _ => true
  | .misseated => true
  | .seatingEmpty => true
  | .magazineRemoval => true
  | .perforationPulse => true
  | .leaderStall => true
  | .advanceStall => true
  | .rewindEnd => true
  | .rewindJam => true
  | .byteTaken => true
  | .busyTimeout => true
  | .fedPulse => true
  | .fedTimeout => true
  | .prnStockFall => true
  | .prnFaultFall => true
  | .buttonRelease _ => true
  | .prnStockRise => true
  | .prnFaultRise => true

end Sys2Proof
end

