-- ==== Sys2Proof/Safety.lean ====
section
/-! DEFINITION. The terms the claims use: when a request is taken at once, what answering it leaves at the port, and what
holds in every state of a safe run: the notice sets, the active-order mark, the accounts, the light, the tables and the
store are as the rules promise. -/

namespace Sys2Proof.Machine

/-! ## Requests -/

/-- The command of a request kind (12.3). -/
def requestCommand (kind : Nat) (body : List Byte) : Option Instr :=
  match kind with
  | 1 => some (.status body)
  | 2 => some (.setNoticeEnable body)
  | 3 => some (.clearNoticeEnable body)
  | 4 => some (.clearNotices body)
  | 5 => some (.restart body)
  | 6 => some (.stop body)
  | 7 => some (.setLibraryMark body)
  | 16 => some (.submitOrder body)
  | 17 => some (.cancelOrder body)
  | 18 => some (.orderReport body)
  | 19 => some (.retireOrder body)
  | 20 => some (.start body)
  | 32 => some (.declareRoll body)
  | 33 => some (.rewind body)
  | 34 => some (.rollReport body)
  | 35 => some (.keepReport body)
  | 36 => some (.closeRoll body)
  | 48 => some (.setFilmKind body)
  | 49 => some (.readFilmKind body)
  | 50 => some (.setStandCalibration body)
  | 51 => some (.readStandCalibration body)
  | 52 => some (.calibrateLamp body)
  | 53 => some (.meterTest body)
  | 54 => some (.readMetering body)
  | 64 => some (.labelStatus body)
  | 65 => some (.resumePrinter body)
  | 80 => some (.setAccount body)
  | 81 => some (.accountReport body)
  | 82 => some (.closeAccount body)
  | 83 => some (.resetPeriod body)
  | 84 => some (.setRates body)
  | 85 => some (.readRates body)
  | _ => none

/-- The port takes an addressed request at once (R174, R179, R187): it listens, has a station, and serves none. -/
def State.free (s : State) : Prop :=
  s.power.phase = .listening ∧ s.line.station ≠ 0 ∧ s.line.inService = none

/-- A frame has ended: nothing is in assembly (R177). -/
def State.frameDone (s : State) : State := { s with line := { s.line with assembly := .unaddressed, gap := 0 } }

/-- What answering a request leaves at the port, and nothing else (R179, R180, R182): the request in service with its
reply fixed, the transmitter waiting, and no frame in assembly. -/
def State.answered (s : State) (kind : Nat) (result : Result) (body : List Byte) : State :=
  { s with
    line :=
      { s.line with
        assembly := .unaddressed, gap := 0, inService := some ⟨kind, result, body⟩, transmitter := .waiting
        replyWait := 0 } }

/-- The characters of an addressed request frame (R177, 12.1), as the receiver hands them on. -/
def requestFrame (station : BitVec 4) (kind : Nat) (body : List Byte) : List Instr :=
  .addressCharacter (BitVec.ofNat 8 station.toNat) ::
    (withCheck 0 (byteField (body.length + 1) ++ byteField kind ++ body)).map Instr.dataCharacter

/-- Commands taken one after the other, from a queue of their own. -/
def runCommands : List Instr → State → Host.Outcome State Fault Refusal
  | [], s => .next s
  | c :: rest, s =>
    match exec c s with
    | .next t => runCommands rest t
    | .fault f => .fault f
    | .refused r => .refused r

/-! ## What a lighting leaves -/

/-- The Exposure Unit with the lamp just lit at a step for a purpose (R63). -/
def State.settlingAt (s : State) (k : Nat) (p : Purpose) : ExposureUnit :=
  { s.exposure with
    state := .settle, lamp := .settling k
    levelCode := [s.calibration.c0, s.calibration.c1, s.calibration.c2, s.calibration.c3].getD k s.calibration.c3
    lampEnable := true, shutterOpen := false, purpose := some p, litTime := 0 }

/-- The Exposure Unit with the lamp put out after some ms at a step: those ms divided by two to the step and rounded up
are its heat (R63, R69). -/
def ExposureUnit.putOut (e : ExposureUnit) (ms k : Nat) : ExposureUnit :=
  { e with
    state := .idle, lamp := .off, levelCode := 0, lampEnable := false, shutterOpen := false
    heatUsed := min 65535 (e.heatUsed + (ms + 2 ^ k - 1) / 2 ^ k), purpose := none, litTime := 0 }

/-- The Metering Unit returned to IDLE, its record kept (R27). -/
def MeteringUnit.atRest (m : MeteringUnit) : MeteringUnit :=
  { m with state := .idle, test := none, calibrating := none, watchGroups := 0 }

/-- The Metering Unit returned to IDLE with its last record written and fresh (R32). -/
def MeteringUnit.recorded (m : MeteringUnit) (r : MeterRecord) : MeteringUnit :=
  { m.atRest with record := r, fresh := true }

/-- Kinds added to the pending set. -/
def NoticeUnit.noting (n : NoticeUnit) (set : NoticeSet) : NoticeUnit := { n with pending := n.pending ||| set }

/-! ## What holds throughout -/

/-- The two top bits of both notice sets are 0 (R199). -/
def State.noticeSetsClear (s : State) : Prop :=
  s.notices.pending.toNat < 16384 ∧ s.notices.enabled.toNat < 16384

/-- METERING, EXPOSING or PAUSED. -/
def OrderState.isActive : OrderState → Bool
  | .metering | .exposing | .paused _ => true
  | .queued | .done | .cutShort _ | .cancelled => false

/-- The active-order mark (R3): it names the one order in METERING, EXPOSING or PAUSED, or none; ids are distinct. -/
def State.markHolds (s : State) : Prop :=
  (s.orders.table.map Order.id).Nodup ∧
  (∀ o ∈ s.orders.table, o.state.isActive = true ↔ s.orders.active = some o.id) ∧
  (∀ id, s.orders.active = some id → ∃ o ∈ s.orders.table, o.id = id)

/-- What the orders in the table still hold of an account number (R146). -/
def State.heldFor (s : State) (number : Nat) : Nat :=
  ((s.orders.table.filter fun o => o.account = number).map Order.holds).sum

/-- The accounts (R139, R140, R146, R151): each number once; held is the sum of the remaining holds of the orders that
name the account; spent plus held is within the allowance; and an order that holds money names an account. -/
def State.accountsBalance (s : State) : Prop :=
  (s.orders.table.map Order.id).Nodup ∧
  (s.accounts.accounts.map Account.number).Nodup ∧
  (∀ a ∈ s.accounts.accounts, a.held = s.heldFor a.number ∧ a.spent + a.held ≤ a.allowance) ∧
  (∀ o ∈ s.orders.table, o.holds ≠ 0 → (s.findAccount o.account).isSome = true) ∧
  (s.power.phase = .held → s.orders.table = [])

/-- A lighting is for an order. -/
def Purpose.forOrder : Purpose → Bool
  | .orderPass | .exposure _ _ => true
  | .testPass | .calibration => false

/-- The lamp, its outputs and the shutter agree with the unit's state (section 4.1, R63, R65). -/
def ExposureUnit.drives (e : ExposureUnit) : Prop :=
  match e.state with
  | .idle =>
    e.lamp = .off ∧ e.levelCode = 0 ∧ e.lampEnable = false ∧ e.shutterOpen = false ∧ e.purpose = none
  | .settle =>
    (∃ k, e.lamp = .settling k) ∧ e.lampEnable = true ∧ e.shutterOpen = false ∧ e.purpose.isSome = true
  | .meter =>
    (∃ k, e.lamp = .lit k) ∧ e.lampEnable = true ∧ e.shutterOpen = false ∧
      (e.purpose = some .orderPass ∨ e.purpose = some .testPass ∨ e.purpose = some .calibration)
  | .expose =>
    (∃ k, e.lamp = .lit k) ∧ e.lampEnable = true ∧ e.shutterOpen = true ∧ ∃ k t, e.purpose = some (.exposure k t)

/-- The light is safe (R63, R65, R68): the lamp is lit for a slide with the gate OCCUPIED, and for a calibration with the
gate EMPTY; a lighting for an order finds the transport READY and the active order in METERING or EXPOSING; and an order
with frames unmade is in EXPOSING only with the gate OCCUPIED. -/
def State.lightSafe (s : State) : Prop :=
  s.markHolds ∧ s.exposure.drives ∧
  (∀ p, s.exposure.purpose = some p → (s.exposure.gate.reading = true ↔ p ≠ .calibration)) ∧
  (∀ p, s.exposure.purpose = some p → p.forOrder = true → s.transport.state = .ready) ∧
  (s.exposure.purpose = some .orderPass → ∃ o, s.activeOrder = some o ∧ o.state = .metering) ∧
  (∀ k t, s.exposure.purpose = some (.exposure k t) → ∃ o, s.activeOrder = some o ∧ o.state = .exposing) ∧
  (∀ o ∈ s.orders.table, o.state = .exposing → o.unmade ≠ 0 → s.exposure.gate.reading = true)

/-- The tables keep their limits (R3, R100, R121), and the printer is at work exactly while it has a label to print and no
alarm (R122, R131). -/
def State.tablesKept (s : State) : Prop :=
  s.orders.table.length ≤ Config.maxOrders ∧ s.rolls.length ≤ Config.maxRolls ∧
  s.labels.queue.length ≤ Config.maxLabels ∧
  (match s.labels.printer with
   | .idle => s.labels.queue = []
   | .sending label index => s.labels.queue ≠ [] ∧ index < label.length
   | .feeding _ _ => s.labels.queue ≠ []
   | .stockOut | .faulted _ => True) ∧
  (s.power.phase = .held → s.labels.queue = [])

/-- The store keeps its form (R161, R165, R166): 38 places of their sizes and 38 marks, the working copies in their number,
and a snapshot being written that is blank or sums with its check byte to 90. -/
def State.storeKept (s : State) : Prop :=
  s.store.places.length = 38 ∧ s.store.dirty.length = 38 ∧ s.films.length = 4 ∧
  s.accounts.slots.length = Config.accountSlots ∧
  (∀ p, p < 38 → (s.store.place p).length = Config.placeSize p) ∧
  (∀ w, s.store.engine = some w →
    w.place < 38 ∧ w.image.length = Config.placeSize w.place ∧
      (w.image = erasedPlace w.place ∨ byteSum w.image = Config.placeSum))

end Sys2Proof.Machine
end

