-- ==== Sys2Proof/Certificates/Slice0/Obligations.lean ====
section
/-! DEFINITION. The statements for the provers. Each names the section or rule it rests on; where a clause is the model's
own choice, its docstring names the log entry. -/

open Sys2Proof Sys2Proof.Machine

/-! ## Steps, the tick and the state after reset -/

/-- A step takes the command at the front of the queue and runs its meaning with the queue's rest. -/
def Obligations.StepRunsFrontCommand : Prop :=
  ∀ (c : Instr) (rest : List Instr) (s : State),
    step { s with pending := c :: rest } = exec c { s with pending := rest }

/-- On an empty queue a step is one tick of the time base (the model's choice, log 1): a part without power or held by RESET
does not change; otherwise each count that runs moves by one ms up to its limit, a label byte that awaits its strobe meets
one look at PRN_BUSY, whose level is a free value (log 34), and nothing else changes. -/
def Obligations.EmptyQueueTicks : Prop :=
  ∀ s : State, s.pending = [] →
    (s.running = false → step s = .next s) ∧
    (s.running = true → ∀ (up : Nat → Nat → Nat) (hold : Debounce → Debounce) (lit quiet : Nat),
      up = (fun limit n => if n < limit then n + 1 else n) →
      hold = (fun (d : Debounce) => { d with count := d.count.map (up 30) }) →
      lit = (match s.exposure.state with
        | .idle => 0
        | .settle => s.calibration.settle
        | .meter => s.calibration.settle + (match s.metering.calibrating with
          | none => 20
          | some r => if r.first = none ∧ r.references = [] then 20 else 5)
        | .expose => s.calibration.settle + (match s.exposure.purpose with
          | some (.exposure _ time) => time
          | _ => 0)) →
      quiet = (match s.transport.motor with
        | .off => 0
        | .forward => 400
        | .reverse => if s.transport.pulseSeen then 600 else 1000) →
      step s = .next { s with
        line := { s.line with
          gap := if s.line.assembly = .unaddressed then s.line.gap else up 20 s.line.gap
          replyWait := if s.line.transmitter = .waiting then up 10 s.line.replyWait else s.line.replyWait }
        exposure := { s.exposure with gate := hold s.exposure.gate, litTime := up lit s.exposure.litTime }
        transport := { s.transport with
          held := up 501 s.transport.held, openFor := s.transport.openFor.map (up 30)
          quietTime := up quiet s.transport.quietTime }
        labels := (match s.labels.printer with
          | .sending label i =>
            if s.labels.strobed = true then { s.labels with wait := up 10000 s.labels.wait }
            else if Config.busyLow s.labels.looks = true then { s.labels with
              looks := s.labels.looks + 1, wait := 0, dataLines := label.getD i 0, strobed := true }
            else { s.labels with looks := s.labels.looks + 1, wait := up 10000 s.labels.wait }
          | .feeding _ _ => { s.labels with wait := up 5000 s.labels.wait }
          | .idle | .stockOut | .faulted _ => s.labels)
        accounts := { s.accounts with key := hold s.accounts.key }
        store := { s.store with
          engine := s.store.engine.map fun (w : PlaceWrite) => { w with elapsed := up 6 w.elapsed } }
        panel := { start := hold s.panel.start, stop := hold s.panel.stop, rewind := hold s.panel.rewind } })

/-- What reset leaves: the values the chapters give. The station, the rate, the store's contents and the levels of the
inputs are the model's choice (logs 5 and 6); with the straps at that choice, RESET_FALL, RESET_RISE and LOAD_END bring the
state after reset back to itself. -/
def Obligations.ResetLeavesTheStatedValues : Prop :=
  runCommands [.resetFall, .resetRise, .loadEnd 1 0] State.reset = .next State.reset ∧
  State.reset.notices = { pending := 0, enabled := 0, lastRefusal := .none, lastFinished := 0 } ∧
  State.reset.orders = { table := [], active := none } ∧
  State.reset.metering.state = .idle ∧ State.reset.metering.record = .none ∧ State.reset.metering.fresh = false ∧
  State.reset.exposure.state = .idle ∧ State.reset.exposure.lamp = .off ∧ State.reset.exposure.levelCode = 0 ∧
  State.reset.exposure.lampEnable = false ∧ State.reset.exposure.shutterOpen = false ∧
  State.reset.exposure.purpose = none ∧ State.reset.exposure.heatUsed = 0 ∧ State.reset.exposure.gate.reading = false ∧
  State.reset.transport.state = .empty ∧ State.reset.transport.loadedKind = none ∧
  State.reset.transport.roll = none ∧ State.reset.transport.currentFrame = 0 ∧ State.reset.transport.motor = .off ∧
  State.reset.transport.pulseCount = 0 ∧ State.reset.transport.pulseSeen = false ∧
  State.reset.transport.quietTime = 0 ∧ State.reset.transport.advanceFor = none ∧ State.reset.rolls = [] ∧
  State.reset.labels.mark = none ∧ State.reset.labels.locked = false ∧ State.reset.labels.queue = [] ∧
  State.reset.labels.dataLines = 0 ∧ State.reset.labels.strobed = false ∧ State.reset.strobeLow = false ∧
  State.reset.accounts.key.reading = false ∧
  (∀ m ∈ State.reset.store.dirty, m = false) ∧ State.reset.store.dirty.length = 38 ∧
  State.reset.store.engine = none ∧ State.reset.line.assembly = .unaddressed ∧
  State.reset.line.inService = none ∧ State.reset.line.held = none ∧ State.reset.line.transmitter = .idle ∧
  State.reset.panel.start.reading = false ∧ State.reset.panel.stop.reading = false ∧
  State.reset.panel.rewind.reading = false

/-- The state after reset meets every invariant stated below. -/
def Obligations.ResetMeetsTheInvariants : Prop :=
  State.reset.noticeSetsClear ∧ State.reset.markHolds ∧ State.reset.accountsBalance ∧ State.reset.lightSafe ∧
  State.reset.tablesKept ∧ State.reset.storeKept

/-! ## Invariants that every step keeps -/

/-- Every step keeps the two top bits of both notice sets 0. -/
def Obligations.NoticeSetsStayClear : Prop :=
  ∀ s t : State, s.noticeSetsClear → step s = .next t → t.noticeSetsClear

/-- Every step keeps the active-order mark on the one order in METERING, EXPOSING or PAUSED. -/
def Obligations.ActiveOrderMarkHolds : Prop :=
  ∀ s t : State, s.markHolds → step s = .next t → t.markHolds

/-- Every step keeps the accounts: each number once, held the sum of the remaining holds of the orders that name the
account, spent plus held within the allowance, and no held money without its account. -/
def Obligations.AccountsStayInBalance : Prop :=
  ∀ s t : State, s.accountsBalance → step s = .next t → t.accountsBalance

/-- Every step keeps the light safe: the lamp and the shutter agree with the unit's state, the lamp is lit for a slide
only with the gate OCCUPIED and for a calibration only with it EMPTY, and the shutter is open only while the transport is
READY. -/
def Obligations.LightStaysSafe : Prop :=
  ∀ s t : State, s.lightSafe → step s = .next t → t.lightSafe

/-- Every step keeps the tables within their limits, and an IDLE printer has no label waiting. -/
def Obligations.TablesStayWithinLimits : Prop :=
  ∀ s t : State, s.tablesKept → step s = .next t → t.tablesKept

/-- Every step keeps the store's form: its places keep their sizes, and what is being written is blank or sums to 90. The
sizes of the places and the erased byte are the model's (logs 7 and 8). -/
def Obligations.StoreKeepsItsForm : Prop :=
  ∀ s t : State, s.storeKept → step s = .next t → t.storeKept

/-! ## The stand line -/

/-- The characters of an addressed request frame, taken one by one at a listening port, leave what the request's command
leaves: assembly ends with the request handed to request service. Every body of up to 63 bytes, for every kind. That a
request row is the arrival of the whole frame is the model's choice (log 4). -/
def Obligations.FrameCharactersAreTheRequest : Prop :=
  ∀ (kind : Nat) (body : List Byte) (c : Instr) (s : State),
    requestCommand kind body = some c → body.length ≤ 63 → s.power.phase = .listening → s.line.station ≠ 0 →
    ∃ t, exec c s = .next t ∧ runCommands (requestFrame s.line.station kind body) s = .next t

/-- A broadcast frame of Stop or Restart without a body, taken character by character, leaves what BROADCAST_STOP or
BROADCAST_RESTART leaves; one with a body, or of any other kind, leaves only a frame assembly that is UNADDRESSED. The
frame's bytes are KIND and the body, at most 64 of them. -/
def Obligations.BroadcastFrames : Prop :=
  ∀ (kind : Nat) (body : List Byte) (s : State), s.power.phase = .listening → kind < 256 → body.length ≤ 63 →
    ∃ t, runCommands (requestFrame 0 kind body) s = .next t ∧
      (kind = 6 → body = [] → exec .broadcastStop s = .next t) ∧
      (kind = 5 → body = [] → exec .broadcastRestart s = .next t) ∧
      (¬ (kind = 6 ∧ body = []) → ¬ (kind = 5 ∧ body = []) →
        t = { s with line := { s.line with assembly := .unaddressed, gap := 0 } })

/-- A good address character at a listening port: with direction 1 it is ignored; to all or to this part it begins a new
frame; to another it leaves assembly UNADDRESSED. Nothing else changes, and a port that does not listen changes
nothing. A good data character in each state of assembly but for a complete frame: ignored in UNADDRESSED; LEN in
EXPECT_LEN, 1 to 64; a byte of the frame in COLLECTING, the last of LEN bytes bringing EXPECT_CHECK; and in
EXPECT_CHECK a CHECK that does not bring the sum to 0 discards the frame. A bad character and the end of the gap
count discard a frame in assembly too, and change nothing else. -/
def Obligations.CharactersAreAssembled : Prop :=
  (∀ (bits : Byte) (s : State),
     exec (.addressCharacter bits) s = .next
       (if s.power.phase ≠ .listening ∨ bits.toNat ≥ 128 then s
        else if bits.toNat % 16 = 0 then { s with line := { s.line with assembly := .expectLen true, gap := 0 } }
        else if bits.toNat % 16 = s.line.station.toNat then
          { s with line := { s.line with assembly := .expectLen false, gap := 0 } }
        else { s with line := { s.line with assembly := .unaddressed, gap := 0 } })) ∧
  (∀ (b : Byte) (s : State), s.power.phase = .listening →
     (s.line.assembly = .unaddressed → exec (.dataCharacter b) s = .next s) ∧
     (∀ toAll, s.line.assembly = .expectLen toAll →
       exec (.dataCharacter b) s = .next { s with line := { s.line with
         assembly := if 1 ≤ b.toNat ∧ b.toNat ≤ 64 then .collecting toAll b.toNat [] b else .unaddressed, gap := 0 } }) ∧
     (∀ toAll len bytes sum, s.line.assembly = .collecting toAll len bytes sum →
       exec (.dataCharacter b) s = .next { s with line := { s.line with
         assembly := if bytes.length + 1 = len then .expectCheck toAll (bytes ++ [b]) (sum + b)
                     else .collecting toAll len (bytes ++ [b]) (sum + b), gap := 0 } }) ∧
     (∀ toAll bytes sum, s.line.assembly = .expectCheck toAll bytes sum → sum + b ≠ 0 →
       exec (.dataCharacter b) s = .next { s with line := { s.line with assembly := .unaddressed, gap := 0 } }) ∧
     (s.line.assembly ≠ .unaddressed →
       exec .badCharacter s = .next { s with line := { s.line with assembly := .unaddressed, gap := 0 } } ∧
       exec .gapTimeout s = .next { s with line := { s.line with assembly := .unaddressed, gap := 0 } }))

/-- A complete request that does not enter service: held when one is in service and none held, discarded without a reply
when one is held. A request whose body has not the length its kind requires is answered BAD_LENGTH, with no body,
and changes nothing but the port. A frame of a KIND that is no request kind, taken character by character, is answered
UNKNOWN_KIND at a free port and held or discarded like another at a busy one. That a request row is the arrival of its
frame, and so is held, is the model's choice (log 4). -/
def Obligations.RequestsAreHeldOrRefused : Prop :=
  (∀ (kind : Nat) (body : List Byte) (c : Instr) (s : State) (r : Service),
     requestCommand kind body = some c → body.length ≤ 63 → s.power.phase = .listening → s.line.station ≠ 0 →
     s.line.inService = some r →
     exec c s = .next { s with line := { s.line with
       assembly := .unaddressed, gap := 0
       held := match s.line.held with
         | none => some ⟨kind, body⟩
         | some h => some h } }) ∧
  (∀ (kind : Nat) (body : List Byte) (c : Instr) (s : State),
     requestCommand kind body = some c → body.length ≤ 63 → s.free → lengthOk kind body = false →
     exec c s = .next (s.answered kind .badLength [])) ∧
  (∀ (kind : Nat) (body : List Byte) (s : State), requestCommand kind body = none → kind < 256 → body.length ≤ 63 →
     (s.free → runCommands (requestFrame s.line.station kind body) s = .next (s.answered kind .unknownKind [])) ∧
     (∀ r : Service, s.power.phase = .listening → s.line.station ≠ 0 → s.line.inService = some r →
       runCommands (requestFrame s.line.station kind body) s = .next { s with line := { s.line with
         assembly := .unaddressed, gap := 0
         held := match s.line.held with
           | none => some ⟨kind, body⟩
           | some h => some h } }))

/-- REPLY_BEGIN sends the reply that was fixed: an address character of this station with direction 1, then LEN, KIND plus
128 modulo 256, RESULT, the body and a CHECK that brings their sum to 0. The reply to an unknown KIND, 128 and above
included, is sent so too. -/
def Obligations.ReplyBeginSendsTheReply : Prop :=
  ∀ (s : State) (r : Service), s.power.phase = .listening → s.line.transmitter = .waiting →
    s.line.inService = some r → r.body.length ≤ 253 →
    ∃ cs : List Character,
      exec .replyBegin s = .next { s with line := { s.line with transmitter := .sending cs } } ∧
      cs.length = r.body.length + 5 ∧
      cs.map BitVec.toNat = (384 + s.line.station.toNat) :: (r.body.length + 2) :: (r.kind + 128) % 256 :: r.result.code ::
        (r.body.map BitVec.toNat ++ (cs.map BitVec.toNat).drop (r.body.length + 4)) ∧
      ((cs.map BitVec.toNat).drop 1).sum % 256 = 0 ∧ (∀ c ∈ cs.drop 1, c.toNat < 256)

/-- The end of a reply that is not a taken Restart's: the request leaves service, and the transmitter is IDLE when no
request is held. A held request then enters service, and is answered as it would have been on arrival at that moment; one
of a KIND that is no request kind is answered UNKNOWN_KIND. A frame in assembly goes on: its characters so far, and their
gap, are kept. -/
def Obligations.ReplyEndTakesTheHeldRequest : Prop :=
  ∀ (s : State) (r : Service) (cs : List Character), s.power.phase = .listening →
    s.line.transmitter = .sending cs → s.line.inService = some r → ¬ (r.kind = 5 ∧ r.result = .done) →
    (s.line.held = none →
      exec .replyEnd s = .next { s with line := { s.line with
        inService := none, transmitter := .idle, replyWait := 0 } }) ∧
    (∀ kind body c, s.line.held = some ⟨kind, body⟩ → requestCommand kind body = some c → body.length ≤ 63 →
      s.line.station ≠ 0 → ∃ t,
      exec c { s with line := { s.line with
        inService := none, held := none, transmitter := .idle, replyWait := 0 } } = .next t ∧
      exec .replyEnd s = .next { t with line := { t.line with
        assembly := s.line.assembly, gap := s.line.gap } }) ∧
    (∀ h : Request, s.line.held = some h → requestCommand h.kind h.body = none →
      exec .replyEnd s = .next { s with line := { s.line with
        inService := some ⟨h.kind, .unknownKind, []⟩, held := none, transmitter := .waiting, replyWait := 0 } })

/-! ## Restart -/

/-- An addressed Restart is answered DONE when it is taken, and changes nothing else then. A Restart that takes effect and
finds no active order, no lighting and a printer that is IDLE with its lines high and no label waiting clears the
pending set and leaves every other block as it was. An addressed one, at the end of its reply, also empties
service, hold and assembly; a broadcast one empties the hold. -/
def Obligations.RestartOfAnIdleStand : Prop :=
  (∀ s : State, s.free → exec (.restart []) s = .next (s.answered 5 .done [])) ∧
  ∀ (s : State) (cs : List Character) (body : List Byte), s.power.phase = .listening → s.orders.active = none →
    s.exposure.purpose = none → s.labels.printer = .idle → s.labels.queue = [] → s.labels.stockHigh = true →
    s.labels.faultHigh = true →
    exec .broadcastRestart s = .next { s with
      line := { s.line with assembly := .unaddressed, gap := 0, held := none }
      notices := { s.notices with pending := 0 }
      labels := { s.labels with wait := 0, dataLines := 0, strobed := false } } ∧
    (s.line.transmitter = .sending cs → s.line.inService = some ⟨5, .done, body⟩ →
      exec .replyEnd s = .next { s with
        line := { s.line with
          assembly := .unaddressed, gap := 0, inService := none, held := none, transmitter := .idle, replyWait := 0 }
        notices := { s.notices with pending := 0 }
        labels := { s.labels with wait := 0, dataLines := 0, strobed := false } })

/-- A Restart that takes effect, a broadcast one or an addressed one at the end of its reply, in a state with safe light. The
active order finishes CUT_SHORT for RESTART, an exposure under way spoiling its frame and advancing past it; every other
order, roll and the transport keep their records. The lamp is out with its heat accrued and the shutter closed, and the
Metering Unit that served the lighting is IDLE, a test or a calibration recorded ABANDONED or FAILED without a notice; that
a test in its settle is recorded so as well is the model's choice (log 18). The
pending set holds at most ORDER_FINISHED and the ROLL_END of that advance. The printer, whatever its state, abandons its
label and stands as its lines give it; IDLE with a queue, it begins the head entry's label again (its first look at
PRN_BUSY: log 34). The enabled set, the film kinds, the calibration, the rates, the KEY, the mark and its lock, the queue,
the store and the panel are kept, and of an account only held can fall. -/
def Obligations.RestartEndsTheWork : Prop :=
  ∀ (s : State) (c : Instr) (port : LinePort), s.lightSafe → s.power.phase = .listening →
    ((c = .broadcastRestart ∧ port = { s.line with assembly := .unaddressed, gap := 0, held := none }) ∨
      (c = .replyEnd ∧ (∃ cs, s.line.transmitter = .sending cs) ∧ (∃ body, s.line.inService = some ⟨5, .done, body⟩) ∧
        port = { s.line with
          assembly := .unaddressed, gap := 0, inService := none, held := none, transmitter := .idle, replyWait := 0 })) →
    ∃ t, exec c s = .next t ∧ t.line = port ∧
    t.orders.active = none ∧ (∀ o ∈ t.orders.table, o.state.isActive = false) ∧
    t.orders.table.map Order.id = s.orders.table.map Order.id ∧
    (∀ (i : Nat) (o : Order), s.orders.table[i]? = some o → o.state.isActive = false → t.orders.table[i]? = some o) ∧
    (∀ (i : Nat) (o : Order), s.orders.table[i]? = some o → o.state.isActive = true → ∃ p, t.orders.table[i]? = some p ∧
      p.state = .cutShort .restart ∧ p.cancelRequested = false ∧ p.exposed = o.exposed ∧
      p.spoiled = o.spoiled + (if s.exposureUnderWay then 1 else 0) ∧ t.notices.lastFinished = o.id) ∧
    (s.orders.active = none → t.notices.lastFinished = s.notices.lastFinished) ∧
    (s.exposureUnderWay = false → t.transport = s.transport ∧ t.rolls = s.rolls) ∧
    (s.exposureUnderWay = true → ∀ o, s.activeOrder = some o →
      t.rolls = (s.rolls.map fun (r : Roll) =>
        if s.transport.roll = some r.number ∧ s.transport.currentFrame ≠ 0 then
          { r with frames := r.frames.set (s.transport.currentFrame - 1) (o.frameEntry .spoiled 0) }
        else r) ∧
      t.transport = (if s.usableFrames ≤ s.transport.currentFrame then { s.transport with state := .atEnd }
        else { s.transport with
          state := .advancing, motor := .forward, pulseCount := 0, pulseSeen := false, quietTime := 0
          advanceFor := some o.id })) ∧
    (s.exposure.purpose = none → t.exposure = s.exposure ∧ t.metering = s.metering) ∧
    (∀ k, s.exposure.lamp = .settling k ∨ s.exposure.lamp = .lit k →
      t.exposure = s.exposure.putOut s.exposure.litTime k) ∧
    (∀ p, s.exposure.purpose = some p → t.metering = (match p with
      | .orderPass | .exposure _ _ => s.metering.atRest
      | .testPass => (match s.metering.test with
        | none => s.metering.atRest
        | some m => s.metering.recorded (.test .abandoned m.filmKind m.offset none none none))
      | .calibration => (match s.metering.calibrating with
        | none => s.metering.atRest
        | some r => s.metering.recorded (.calibration .failed r.stages r.first r.references r.offsets)))) ∧
    (∀ n, hasNotice t.notices.pending n = true → n = .orderFinished ∨ n = .rollEnd) ∧
    t.notices.enabled = s.notices.enabled ∧ t.notices.lastRefusal = s.notices.lastRefusal ∧
    t.labels = (if s.labels.faultHigh = false then
        { s.labels with printer := .faulted .faultLine, wait := 0, dataLines := 0, strobed := false }
      else if s.labels.stockHigh = false then
        { s.labels with printer := .stockOut, wait := 0, dataLines := 0, strobed := false }
      else match s.labels.queue with
        | [] => { s.labels with printer := .idle, wait := 0, dataLines := 0, strobed := false }
        | e :: _ => s.labels.beginLabel (t.composeLabel e)) ∧
    (∀ n a, s.findAccount n = some a → ∃ b, t.findAccount n = some b ∧ b = { a with held := b.held } ∧ b.held ≤ a.held) ∧
    t.films = s.films ∧ t.calibration = s.calibration ∧ t.accounts = { s.accounts with slots := t.accounts.slots } ∧
    t.store = s.store ∧ t.power = s.power ∧ t.panel = s.panel ∧ t.pending = s.pending

/-! ## Notices, ATTN and the panel -/

/-- Status is answered DONE with the part as it stands, in the layout of 12.5, and changes nothing but the port. Set
Notice Enable adds the named kinds to the enabled set, Clear Notice Enable removes them from it, and Clear Notices
removes them from the pending set; each answers with what it left. A set that names a kind above 13 is refused.
Nothing else changes but the port. -/
def Obligations.NoticeRequestsAreAnswered : Prop :=
  (∀ s : State, s.free →
     exec (.status []) s = .next (s.answered 1 .done
       (pairField s.notices.pending.toNat ++ pairField s.notices.enabled.toNat ++
         pairField (s.notices.pending &&& s.notices.enabled).toNat ++ byteField s.transport.state.code ++
         byteField s.transport.currentFrame ++
         byteField (if s.transport.state = .empty ∨ s.transport.state = .seating ∨ s.transport.state = .misseated
                    then 255 else s.transport.loadedKind.getD 255) ++
         byteField s.exposure.state.code ++ byteField (if s.exposure.gate.reading then 1 else 0) ++
         pairField (s.orders.active.getD 0) ++ byteField s.labels.printer.code ++
         byteField s.labels.queue.length ++ byteField (if s.accounts.key.reading then 1 else 0) ++
         byteField (if s.calibration.refCal = 0 then 0 else 1) ++ byteField s.notices.lastRefusal.code ++
         pairField s.notices.lastFinished))) ∧
  (∀ (a b : Byte) (set : NoticeSet) (s : State), s.free → set.toNat = a.toNat * 256 + b.toNat →
     (set.toNat < 16384 →
       exec (.setNoticeEnable [a, b]) s = .next
         (({ s with notices := { s.notices with enabled := s.notices.enabled ||| set } }).answered 2 .done
           (pairField (s.notices.enabled ||| set).toNat ++
             pairField (s.notices.pending &&& (s.notices.enabled ||| set)).toNat)) ∧
       exec (.clearNoticeEnable [a, b]) s = .next
         (({ s with notices := { s.notices with enabled := s.notices.enabled &&& ~~~set } }).answered 3 .done
           (pairField (s.notices.enabled &&& ~~~set).toNat ++
             pairField (s.notices.pending &&& (s.notices.enabled &&& ~~~set)).toNat)) ∧
       exec (.clearNotices [a, b]) s = .next
         (({ s with notices := { s.notices with pending := s.notices.pending &&& ~~~set } }).answered 4 .done
           (pairField (s.notices.pending &&& ~~~set).toNat))) ∧
     (16384 ≤ set.toNat →
       exec (.setNoticeEnable [a, b]) s = .next (s.answered 2 .outOfRange []) ∧
       exec (.clearNoticeEnable [a, b]) s = .next (s.answered 3 .outOfRange []) ∧
       exec (.clearNotices [a, b]) s = .next (s.answered 4 .outOfRange [])))

/-- ATTN is driven, and LMP_ATTN lit, exactly when the pending and the enabled set share a kind. READY is lit exactly in
READY with the stand calibrated and no order active. BUSY is lit exactly while an order of the table is in METERING or
EXPOSING, which is, where the active-order mark holds, while the active order is; READY and BUSY are then never lit
together. -/
def Obligations.LampsFollowTheState : Prop :=
  ∀ s : State,
    (s.noticeSetsClear → (s.attnLow = true ↔
      ∃ n : Notice, hasNotice s.notices.pending n = true ∧ hasNotice s.notices.enabled n = true)) ∧
    s.attentionLamp = s.attnLow ∧
    (s.readyLamp = true ↔ s.transport.state = .ready ∧ s.calibration.refCal ≠ 0 ∧ s.orders.active = none) ∧
    (s.busyLamp = true ↔ ∃ o ∈ s.orders.table, o.state = .metering ∨ o.state = .exposing) ∧
    (s.markHolds →
      (s.busyLamp = true ↔ ∃ o, s.activeOrder = some o ∧ (o.state = .metering ∨ o.state = .exposing)) ∧
      ¬ (s.readyLamp = true ∧ s.busyLamp = true))

/-- A change of a switch's level starts its 30 ms count, a return to the reading stops it, and a level repeated changes
nothing: the KEY switch, a panel button and the gate switch of a running part. Nothing else changes, but that a change of
the gate switch ends the wait for the first gate reading (log 14). The end of a count makes the held level the reading of
the KEY switch, and at a button's release, which has no other effect. -/
def Obligations.SwitchesAreDebounced : Prop :=
  ∀ (b : Button) (closed : Bool) (s : State), s.running = true →
    (let d := s.accounts.key
     exec (.keySwitchChange closed) s = .next { s with accounts := { s.accounts with key :=
       if closed = d.level then d else ⟨closed, d.reading, if closed = d.reading then none else some 0⟩ } }) ∧
    (∃ t, exec (.buttonLevelChange b closed) s = .next t ∧ t = { s with panel := t.panel } ∧
      (∀ c, c ≠ b → t.panel.button c = s.panel.button c) ∧
      t.panel.button b =
        (let d := s.panel.button b
         if closed = d.level then d else ⟨closed, d.reading, if closed = d.reading then none else some 0⟩)) ∧
    (let d := s.exposure.gate
     exec (.gateSwitchChange closed) s = .next
       (if closed = d.level then s
        else { s with exposure := { s.exposure with
          gate := ⟨closed, d.reading, if closed = d.reading then none else some 0⟩, firstReading := false } })) ∧
    (s.accounts.key.count.isSome = true →
      exec .keyReadingChange s = .next { s with accounts := { s.accounts with
        key := ⟨s.accounts.key.level, s.accounts.key.level, none⟩ } }) ∧
    ((s.panel.button b).count.isSome = true → (s.panel.button b).level = false →
      ∃ t, exec (.buttonRelease b) s = .next t ∧ t = { s with panel := t.panel } ∧
        (∀ c, c ≠ b → t.panel.button c = s.panel.button c) ∧ t.panel.button b = ⟨false, false, none⟩)

/-! ## Orders -/

/-- An admission: the hold on the account, with ACCOUNT_LOW when its low mark goes from no to yes, the record of R1 at the
end of the table, the mark locked, and the reply with the hold and the available amount after it. -/
def Obligations.SubmitOrderAdmits : Prop :=
  ∀ (body : List Byte) (s : State) (f : SubmitFields) (rates : RateCard) (a : Account) (o : Order) (hold : Nat),
    s.free → body.length ≤ 63 → submitLengthOk body = true → f = readSubmit body → f.inRange = true →
    s.labels.mark.isSome = true → s.accounts.rates = some rates → s.findOrder f.id = none →
    s.exposedFrameNames f.id = false → s.orders.table.length < 16 → s.findAccount f.account = some a →
    a.suspended = false → (s.films.getD f.filmKind none).isSome = true →
    o = { id := f.id, account := f.account, filmKind := f.filmKind, catalogue := storedText f.catalogue
          title := storedText f.title, offsets := f.offsets, copies := f.copies, labels := decide (f.labelsCode = 1)
          setupFee := rates.setup, frameRate := rates.frameRate f.filmKind, labelRate := rates.label
          setupHold := rates.setup, frameHold := f.offsets.length * f.copies * rates.frameRate f.filmKind
          labelHold := if f.labelsCode = 1 then f.offsets.length * f.copies * rates.label else 0
          state := .queued, cancelRequested := false, nextStep := 1, nextCopy := 1, exposed := 0, spoiled := 0
          plan := none, taken := []
          labelsOutstanding := if f.labelsCode = 1 then f.offsets.length * f.copies else 0 } →
    hold = o.setupHold + o.frameHold + o.labelHold → hold ≤ a.allowance - a.spent - a.held →
    exec (.submitOrder body) s = .next
      (({ s with
          accounts := { s.accounts with slots := s.accounts.slots.map fun (slot : Option Account) => slot.map fun (b : Account) =>
            if b.number = f.account then { b with held := b.held + hold } else b }
          notices := { s.notices with pending :=
            if a.warn ≤ a.allowance - a.spent - a.held ∧ a.allowance - a.spent - (a.held + hold) < a.warn
            then s.notices.pending ||| 1024 else s.notices.pending }
          orders := { s.orders with table := s.orders.table ++ [o] }
          labels := { s.labels with locked := true } }).answered 16 .done
        (quadField hold ++ quadField (a.allowance - a.spent - (a.held + hold))))

/-- The refusals of Submit Order, each when the checks before it pass, in their order: OUT_OF_RANGE, for an order id of 0,
an account number of 0 or above 9999, a film kind above 3, a catalogue number of 0 or more than 14 characters, a title of
more than 32, an offset count of 0 or above 5, an offset outside -24 to +24, copies of 0 or above 3, or a labels byte above
1; NO_MARK, NOT_READY, DUPLICATE, TABLE_FULL, NO_SUCH, WRONG_STATE, NOT_READY, INSUFFICIENT. A refusal has no body and
changes nothing but the port. -/
def Obligations.SubmitOrderIsRefusedInOrder : Prop :=
  ∀ (body : List Byte) (s : State) (f : SubmitFields), s.free → body.length ≤ 63 → submitLengthOk body = true →
    f = readSubmit body →
    ∃ t, exec (.submitOrder body) s = .next t ∧
      if f.id = 0 ∨ f.account = 0 ∨ 9999 < f.account ∨ 3 < f.filmKind ∨ f.catalogue.length = 0 ∨
          14 < f.catalogue.length ∨ 32 < f.title.length ∨ f.offsets.length = 0 ∨ 5 < f.offsets.length ∨
          (∃ offset ∈ f.offsets, offset < -24 ∨ 24 < offset) ∨ f.copies = 0 ∨ 3 < f.copies ∨ 1 < f.labelsCode then
        t = s.answered 16 .outOfRange []
      else if s.labels.mark = none then t = s.answered 16 .noMark []
      else if s.accounts.rates = none then t = s.answered 16 .notReady []
      else if (∃ o ∈ s.orders.table, o.id = f.id) ∨
          (∃ r ∈ s.rolls, ∃ e ∈ r.frames, e.state = .exposed ∧ e.order = f.id) then t = s.answered 16 .duplicate []
      else if 16 ≤ s.orders.table.length then t = s.answered 16 .tableFull []
      else if s.findAccount f.account = none then t = s.answered 16 .noSuch []
      else if (s.findAccount f.account).any (fun a => a.suspended) = true then t = s.answered 16 .wrongState []
      else if s.films.getD f.filmKind none = none then t = s.answered 16 .notReady []
      else if (s.findAccount f.account).any (fun a => s.accounts.rates.any fun rates => decide
          (a.allowance - a.spent - a.held < rates.setup + f.offsets.length * f.copies * rates.frameRate f.filmKind +
            (if f.labelsCode = 1 then f.offsets.length * f.copies * rates.label else 0))) = true then
        t = s.answered 16 .insufficient []
      else t.orders.table.length = s.orders.table.length + 1

/-- Cancel Order: refused for an order that is not in the table or is finished; a QUEUED, PAUSED or METERING order
finishes CANCELLED at once, its pass abandoned; an EXPOSING order is marked, unless it waits for its final advance,
which sets nothing; a first frame that waits for the Cancel begins behind it (the model's choice, log 33). Retire Order:
NO_SUCH for an id not in the table; WRONG_STATE unless the order is finished with no label outstanding and all three holds
0; otherwise the record leaves the table, the others keep their order, and nothing else changes but the port. -/
def Obligations.OrdersAreCancelledAndRetired : Prop :=
  (∀ (a b : Byte) (id : Nat) (s : State), s.free → id = a.toNat * 256 + b.toNat →
     (s.findOrder id = none → exec (.cancelOrder [a, b]) s = .next (s.answered 17 .noSuch [])) ∧
     (∀ o, s.findOrder id = some o → o.state.finished = true →
       exec (.cancelOrder [a, b]) s = .next (s.answered 17 .wrongState [])) ∧
     (∀ o, s.findOrder id = some o → (o.state = .queued ∨ o.state = .paused .roll ∨ o.state = .paused .lamp) →
       exec (.cancelOrder [a, b]) s = .next ((s.frameDone.finishOrder id .cancelled).answered 17 .done [])) ∧
     (∀ o, s.findOrder id = some o → o.state = .metering → s.exposure.purpose = some .orderPass →
       exec (.cancelOrder [a, b]) s = .next ((s.frameDone.abandonPass.finishOrder id .cancelled).answered 17 .done [])) ∧
     (∀ (o : Order) (marked : State), s.findOrder id = some o → o.state = .exposing → o.unmade ≠ 0 →
       marked = { s.frameDone with orders := { s.orders with table := s.orders.table.map fun (p : Order) =>
         if p.id = id then { p with cancelRequested := true } else p } } →
       exec (.cancelOrder [a, b]) s = .next
         ((if s.exposure.frameWaits = true ∧ s.exposure.state = .idle ∧ s.transport.state = .ready then
             State.beginFrame { marked with exposure := { s.exposure with frameWaits := false } } id
           else marked).answered 17 .done [])) ∧
     (∀ o, s.findOrder id = some o → o.state = .exposing → o.unmade = 0 →
       exec (.cancelOrder [a, b]) s = .next (s.answered 17 .done []))) ∧
  (∀ (a b : Byte) (id : Nat) (s : State), s.free → id = a.toNat * 256 + b.toNat →
     (s.findOrder id = none → exec (.retireOrder [a, b]) s = .next (s.answered 19 .noSuch [])) ∧
     (∀ o, s.findOrder id = some o →
       (if o.state.finished = true ∧ o.labelsOutstanding = 0 ∧ o.setupHold = 0 ∧ o.frameHold = 0 ∧ o.labelHold = 0 then
         exec (.retireOrder [a, b]) s = .next
           (({ s with orders := { s.orders with table := s.orders.table.filter fun (p : Order) => p.id ≠ id } }).answered 19 .done [])
       else exec (.retireOrder [a, b]) s = .next (s.answered 19 .wrongState []))))

/-- What a finish does, for an order of the table whose ids are distinct: its record takes the final state with the cancel
mark no, its setup and frame holds and the label holds of the frames still unmade are released, labels outstanding falls by
them, the active-order mark no longer names it, and its id is the last finished with ORDER_FINISHED, and nothing else, added
to the pending set. The records keep their places; the other orders, the part's other blocks and spent of every account are
unchanged. -/
def Obligations.FinishSettlesTheOrder : Prop :=
  ∀ (s : State) (o : Order) (final : OrderState), (s.orders.table.map Order.id).Nodup → o ∈ s.orders.table →
    o.frameHold = o.unmade * o.frameRate → o.labelHold = (if o.labels then o.labelsOutstanding * o.labelRate else 0) →
    o.setupHold = (if o.exposed = 0 then o.setupFee else 0) → (o.labels = true → o.unmade ≤ o.labelsOutstanding) →
    let t := s.finishOrder o.id final
    t.orders.table = (s.orders.table.map fun (p : Order) => if p.id = o.id then
      { o with
        state := final, cancelRequested := false, setupHold := 0, frameHold := 0
        labelHold := if o.labels then (o.labelsOutstanding - o.unmade) * o.labelRate else 0
        labelsOutstanding := if o.labels then o.labelsOutstanding - o.unmade else o.labelsOutstanding }
      else p) ∧
    (∀ i, i ≠ o.id → t.findOrder i = s.findOrder i) ∧
    t.orders.active = (if s.orders.active = some o.id then none else s.orders.active) ∧
    (∀ n, s.findAccount n = none → t.findAccount n = none) ∧
    (∀ n a, s.findAccount n = some a → ∃ b, t.findAccount n = some b ∧ b = { a with held := b.held } ∧
      (n = o.account → b.held = a.held - (o.unmade * o.frameRate + (if o.labels then o.unmade * o.labelRate else 0) +
        (if o.exposed = 0 then o.setupFee else 0))) ∧
      (n ≠ o.account → b.held = a.held)) ∧
    t = { s with orders := t.orders, accounts := t.accounts, notices := t.notices } ∧
    t.accounts = { s.accounts with slots := t.accounts.slots } ∧
    t.notices = { s.notices with pending := s.notices.pending ||| 1, lastFinished := o.id }

/-- Order Report: the whole record as it stands, in the layout of 12.5; id 0 names the active order, and an id that names
no order is NO_SUCH. Nothing changes but the port. -/
def Obligations.OrderReportShowsTheRecord : Prop :=
  ∀ (a b : Byte) (id : Nat) (s : State), s.free → id = a.toNat * 256 + b.toNat →
    ((id ≠ 0 → s.findOrder id = none) → (id = 0 → s.activeOrder = none) →
      exec (.orderReport [a, b]) s = .next (s.answered 18 .noSuch [])) ∧
    (∀ o pos, (id ≠ 0 → s.findOrder id = some o) → (id = 0 → s.activeOrder = some o) →
      (s.orders.table.map Order.id).Nodup → s.orders.table[pos]? = some o →
      exec (.orderReport [a, b]) s = .next (s.answered 18 .done
        (byteField (pos + 1) ++ pairField o.id ++ pairField o.account ++ byteField o.filmKind ++
          byteField o.state.code ++ byteField o.state.pauseCode ++ byteField o.state.finishCode ++
          byteField (if o.cancelRequested then 1 else 0) ++ byteField (if o.labels then 1 else 0) ++
          byteField o.copies ++ byteField o.offsets.length ++ o.offsets.map (BitVec.ofInt 8) ++
          byteField o.nextStep ++ byteField o.nextCopy ++ byteField o.exposed ++ byteField o.spoiled ++
          pairField o.setupFee ++ pairField o.frameRate ++ pairField o.labelRate ++ quadField o.setupHold ++
          quadField o.frameHold ++ quadField o.labelHold ++ byteField o.labelsOutstanding ++
          byteField o.catalogue.length ++ o.catalogue ++ byteField o.title.length ++ o.title ++
          byteField o.taken.length ++ o.taken.flatMap (fun p => pairField p.1 ++ byteField p.2) ++
          (match o.plan with
           | none => byteField 0
           | some es => byteField 1 ++ es.flatMap fun e =>
               [BitVec.ofInt 8 e.offset] ++ pairField (BitVec.ofInt 16 e.stop).toNat ++ byteField e.step ++
                 pairField e.time ++ byteField e.flags.byte ++ pairField e.heat))))

/-- Start, as a request or as a press of START, takes a PAUSED active order, or else the first QUEUED order of the loaded
kind whose account is present and ACTIVE, when the transport is READY, the gate OCCUPIED, the stand calibrated and no
measurement under way: the order is active and in METERING, and the lamp settles at step 0 for its pass, or, where the heat
check fails, the order finishes CUT_SHORT for HEAT_LIMIT. The request is answered ACCEPTED; the press takes the button. -/
def Obligations.StartTakesAnOrder : Prop :=
  ∀ (s : State) (o : Order) (lit : State → State), s.transport.state = .ready → s.exposure.gate.reading = true →
    s.calibration.refCal ≠ 0 → s.metering.test = none → s.metering.calibrating = none →
    s.transport.loadedKind = some o.filmKind →
    ((s.activeOrder = some o ∧ ∃ r, o.state = .paused r) ∨
      (s.activeOrder = none ∧ ∃ before after, s.orders.table = before ++ o :: after ∧ o.state = .queued ∧
        (∃ a, s.findAccount o.account = some a ∧ a.suspended = false) ∧
        ∀ p ∈ before, p.state = .queued → s.transport.loadedKind = some p.filmKind →
          ∀ a, s.findAccount p.account = some a → a.suspended = true)) →
    lit = (fun u =>
      let m := { u with orders := { active := some o.id, table := u.orders.table.map fun (p : Order) =>
        if p.id = o.id then { p with state := .metering } else p } }
      if u.exposure.heatUsed + u.calibration.settle + 20 ≤ u.calibration.heatLimit then
        { m with exposure := { u.exposure with
          state := .settle, lamp := .settling 0, levelCode := u.calibration.c0, lampEnable := true
          shutterOpen := false, purpose := some .orderPass, litTime := 0 } }
      else m.finishOrder o.id (.cutShort .heatLimit)) →
    (s.free → exec (.start []) s = .next ((lit s.frameDone).answered 20 .accepted [])) ∧
    (s.panel.start.count.isSome = true → s.panel.start.level = true →
      exec .startPress s = .next (lit { s with panel := { s.panel with start := ⟨true, true, none⟩ } }))

/-- A refused Start changes no order, table, transport or light: the request is answered WRONG_STATE with the reason, the
press records the reason and raises START_REFUSED. The reasons are found in the order of R6 to R8. -/
def Obligations.RefusedStartGivesItsReason : Prop :=
  ∀ (s : State) (why : StartRefusal), why ≠ .none →
    (why =
      (if s.metering.test.isSome = true ∨ s.metering.calibrating.isSome = true then .busy
       else match s.activeOrder with
         | some o =>
           if ¬ (o.state = .paused .roll ∨ o.state = .paused .lamp) then .busy
           else if s.transport.state ≠ .ready then .noFilm
           else if s.transport.loadedKind ≠ some o.filmKind then .kindMismatch
           else if s.exposure.gate.reading = false then .noSlide
           else if s.calibration.refCal = 0 then .uncalibrated else .none
         | none =>
           if s.transport.state ≠ .ready then .noFilm
           else if ∀ o ∈ s.orders.table, s.qualifies o = false then .noOrder
           else if s.exposure.gate.reading = false then .noSlide
           else if s.calibration.refCal = 0 then .uncalibrated else .none)) →
    (s.free → exec (.start []) s = .next (s.answered 20 .wrongState (byteField why.code))) ∧
    (s.panel.start.count.isSome = true → s.panel.start.level = true →
      exec .startPress s = .next { s with
        panel := { s.panel with start := ⟨true, true, none⟩ }
        notices := { s.notices with lastRefusal := why, pending := s.notices.pending ||| 4096 } })

/-- A Stop, as a request, a press of STOP or a broadcast: with no active order, or with one that waits for its final
advance, it changes nothing; a PAUSED order, or an EXPOSING one between frames, finishes CUT_SHORT for STOPPED; in METERING
the pass is abandoned first, and an exposure under way, the last planned frame's among them (log 17), is aborted first with
its frame spoiled. -/
def Obligations.StopCutsTheOrderShort : Prop :=
  ∀ (s : State) (stopped : State → State),
    stopped = (fun u => match u.activeOrder with
      | none => u
      | some o =>
        if o.state = .exposing ∧ o.unmade = 0 then u
        else match u.exposure.purpose with
          | some .orderPass => u.abandonPass.finishOrder o.id (.cutShort .stopped)
          | some (.exposure _ _) => (u.abortExposure true).finishOrder o.id (.cutShort .stopped)
          | _ => u.finishOrder o.id (.cutShort .stopped)) →
    (s.free → exec (.stop []) s = .next ((stopped s.frameDone).answered 6 .done [])) ∧
    (s.power.phase = .listening → exec .broadcastStop s = .next (stopped s.frameDone)) ∧
    (s.panel.stop.count.isSome = true → s.panel.stop.level = true →
      exec .stopPress s = .next (stopped { s with panel := { s.panel with stop := ⟨true, true, none⟩ } }))

/-- Putting the lamp out: the shutter closed, the outputs released, the unit IDLE, and the lit time divided by two to the
lamp step and rounded up added to the heat used, which stops at 65535. Ending a pass does this and leaves the Metering Unit
IDLE; nothing else changes. -/
def Obligations.PuttingTheLampOutAccruesHeat : Prop :=
  ∀ (s : State) (k : Nat), s.exposure.lamp = .settling k ∨ s.exposure.lamp = .lit k →
    ∃ heat, heat * 2 ^ k < s.exposure.litTime + 2 ^ k ∧ s.exposure.litTime ≤ heat * 2 ^ k ∧
      s.abandonPass = { s with
        exposure := { s.exposure with
          state := .idle, lamp := .off, levelCode := 0, lampEnable := false, shutterOpen := false
          heatUsed := min 65535 (s.exposure.heatUsed + heat), purpose := none, litTime := 0 }
        metering := { s.metering with state := .idle, test := none, calibrating := none, watchGroups := 0 } }

/-- An aborted exposure of the active order: the lamp out with its heat, the Metering Unit at rest, the frame recorded
SPOILED with charge 0 on the roll in camera, one frame rate and, where labels are wanted, one label rate released from the
order and from its account's held, labels outstanding one less, the progress of R2 with the frame taken, and the advance
past it: the motor forward for this order (log 16), or END with ROLL_END at the last usable frame. An abort by a fogging
removal asks for no advance, and leaves the transport and the notices alone. Nothing else changes. -/
def Obligations.AbortSpoilsTheFrame : Prop :=
  ∀ (s : State) (o : Order) (k : Nat) (dark released moved : State), s.activeOrder = some o →
    s.exposure.lamp = .settling k ∨ s.exposure.lamp = .lit k →
    dark = { s with
      exposure := s.exposure.putOut s.exposure.litTime k, metering := s.metering.atRest
      rolls := s.rolls.map fun (r : Roll) =>
        if s.transport.roll = some r.number ∧ s.transport.currentFrame ≠ 0 then
          { r with frames := r.frames.set (s.transport.currentFrame - 1) (o.frameEntry .spoiled 0) }
        else r } →
    released = (if o.labels = true then (dark.release o.id .frame o.frameRate).release o.id .label o.labelRate
                else dark.release o.id .frame o.frameRate) →
    moved = { released with orders := { released.orders with
      table := released.orders.table.map fun (p : Order) =>
        if p.id = o.id then
          { p with
            taken := p.taken ++ [(s.transport.roll.getD 0, s.transport.currentFrame)], spoiled := p.spoiled + 1
            labelsOutstanding := if o.labels = true then p.labelsOutstanding - 1 else p.labelsOutstanding
            nextCopy := if p.copies < p.nextCopy + 1 then 1 else p.nextCopy + 1
            nextStep := if p.copies < p.nextCopy + 1 then p.nextStep + 1 else p.nextStep }
        else p } } →
    (s.abortExposure true =
      (if s.usableFrames ≤ s.transport.currentFrame then
         { moved with transport := { s.transport with state := .atEnd }, notices := s.notices.noting 4 }
       else { moved with transport := { s.transport with
         state := .advancing, motor := .forward, pulseCount := 0, pulseSeen := false, quietTime := 0
         advanceFor := some o.id } })) ∧
    s.abortExposure false = moved ∧
    moved.transport = s.transport ∧ moved.store = s.store ∧ moved.notices = s.notices ∧ moved.orders.active = s.orders.active ∧
    (∀ i, i ≠ o.id → moved.findOrder i = s.findOrder i) ∧
    (∃ p, moved.findOrder o.id = some p ∧ p.state = o.state ∧ p.exposed = o.exposed ∧ p.spoiled = o.spoiled + 1 ∧
      p.setupHold = o.setupHold ∧ p.frameHold = o.frameHold - o.frameRate ∧
      p.labelHold = (if o.labels = true then o.labelHold - o.labelRate else o.labelHold) ∧
      p.labelsOutstanding = (if o.labels = true then o.labelsOutstanding - 1 else o.labelsOutstanding)) ∧
    (∀ n, n ≠ o.account → moved.findAccount n = s.findAccount n) ∧
    (∀ a, s.findAccount o.account = some a → moved.findAccount o.account = some { a with
      held := a.held - min o.frameRate o.frameHold - (if o.labels = true then min o.labelRate o.labelHold else 0) })

/-! ## Exposure arithmetic -/

/-- The log function: the octave and the eighth of every value of 1 to 1023, the smallest value of each eighth from the
third octave on, and the values below. It is applied to averages with 1 in the place of 0, to REFcal and to the
baselines. -/
def Obligations.LogOfAverages : Prop :=
  (∀ v : Nat, 1 ≤ v → v ≤ 1023 → ∃ e f : Nat, 2 ^ e ≤ v ∧ v < 2 ^ (e + 1) ∧ e ≤ 9 ∧ f = (v - 2 ^ e) * 8 / 2 ^ e ∧
    f ≤ 7 ∧ logEighths v = 8 * e + f) ∧
  (∀ e f : Nat, 3 ≤ e → e ≤ 9 → f ≤ 7 → logEighths (2 ^ e + f * 2 ^ (e - 3)) = 8 * e + f ∧
    ∀ v : Nat, 1 ≤ v → v < 2 ^ e + f * 2 ^ (e - 3) → logEighths v < 8 * e + f) ∧
  [1, 2, 3, 4, 5, 6, 7, 1023].map logEighths = [0, 8, 12, 16, 18, 20, 22, 79] ∧ logEighths 300 = 65 ∧
  logEighths 900 = 78 ∧ (∀ v : Nat, 960 ≤ v → v ≤ 1023 → logEighths v = 79) ∧
  (∀ (cal : StandCalibration) (ref : Nat), ageingTerm cal ref = (logEighths cal.refCal : Int) - logEighths (max 1 ref)) ∧
  (∀ candidate reference : Nat,
    measuredOffset candidate reference = (logEighths (max 1 candidate) : Int) - logEighths (max 1 reference)) ∧
  (∀ (baseline average : Nat) (ageing : Int), (density baseline average ageing : Int) =
    max 0 (min 79 ((logEighths baseline : Int) - logEighths (max 1 average) - ageing)))

/-- From the converter to the plan: readings of 0 to 1023 rounded down, averages rounded to nearest, the lamp test, the
stop value D + C + o + A, the flags of an entry, and its heat cost, the settle time plus T divided by 2^k and rounded
up. -/
def Obligations.ReadingsMakeEntries : Prop :=
  (∀ c : Conversion, c.ok = true → readingOf c ≤ 1023 ∧ (1023 * c.vref ≤ 1024 * c.voltage → readingOf c = 1023) ∧
    (1024 * c.voltage < 1023 * c.vref →
      readingOf c * c.vref ≤ 1024 * c.voltage ∧ 1024 * c.voltage < (readingOf c + 1) * c.vref)) ∧
  (∀ c1 c2 c3 c4 : Conversion,
    averageReading c1 c2 c3 c4 = (readingOf c1 + readingOf c2 + readingOf c3 + readingOf c4 + 2) / 4) ∧
  (∀ s1 s2 s3 s4 : Scan, passAverages s1 s2 s3 s4 =
    { ref := averageReading s1.ref s2.ref s3.ref s4.ref, red := averageReading s1.red s2.red s3.red s4.red
      green := averageReading s1.green s2.green s3.green s4.green
      blue := averageReading s1.blue s2.blue s3.blue s4.blue }) ∧
  (∀ (cal : StandCalibration) (ref : Nat), lampFailing cal ref = true ↔
    max 1 ref < 64 ∨ ageingTerm cal ref < -16 ∨ 16 < ageingTerm cal ref) ∧
  (∀ (cal : StandCalibration) (f : FilmKind) (a : Averages) (offset : Int),
    let e := planEntry cal f a offset
    let ageing := ageingTerm cal a.ref
    let d := weightedDensity f (density cal.baseRed a.red ageing) (density cal.baseGreen a.green ageing)
      (density cal.baseBlue a.blue ageing)
    e.offset = offset ∧ e.stop = d + f.c + offset + ageing ∧
    chooseStep cal f.tref e.stop = (e.step, e.time, e.flags.isOver, e.flags.isUnder) ∧
    (e.flags.isClipped = true ↔
      a.ref = 1023 ∨ (f.wr ≠ 0 ∧ a.red = 1023) ∨ (f.wg ≠ 0 ∧ a.green = 1023) ∨ (f.wb ≠ 0 ∧ a.blue = 1023)) ∧
    (e.flags.isDark = true ↔
      (f.wr ≠ 0 ∧ a.red = 0) ∨ (f.wg ≠ 0 ∧ a.green = 0) ∨ (f.wb ≠ 0 ∧ a.blue = 0)) ∧
    cal.settle + e.time ≤ e.heat * 2 ^ e.step ∧ e.heat * 2 ^ e.step < cal.settle + e.time + 2 ^ e.step)

/-- The weighted density: the weighted mean of the channel densities rounded to the nearest whole number, halves up. -/
def Obligations.WeightedDensityIsTheRoundedMean : Prop :=
  ∀ (f : FilmKind) (dr dg db w sum : Nat), w = f.wr + f.wg + f.wb → 1 ≤ w → sum = f.wr * dr + f.wg * dg + f.wb * db →
    let d := weightedDensity f dr dg db
    d = (sum + w / 2) / w ∧ 2 * (w * d) ≤ 2 * sum + w ∧ 2 * sum + w < 2 * (w * (d + 1)) ∧
    (dr ≤ 79 → dg ≤ 79 → db ≤ 79 → d ≤ 79) ∧
    (∀ x : Nat, (f.wr = 0 → weightedDensity f x dg db = d) ∧ (f.wg = 0 → weightedDensity f dr x db = d) ∧
      (f.wb = 0 → weightedDensity f dr dg x = d))

/-- time(s): for s of q whole stops and r eighths, P over its divisor rounded to nearest with halves up, which does not
fall as s rises. -/
def Obligations.ExposureTimeOfStops : Prop :=
  (∀ (tref : Nat) (s q : Int) (r n : Nat), s = 8 * q + r → r ≤ 7 →
    let m := [1000, 1091, 1189, 1297, 1414, 1542, 1682, 1834].getD r 0
    (q = n → timeOf tref s = (tref * m * 2 ^ n + 500) / 1000) ∧
    (q = -n → timeOf tref s = (tref * m + 500 * 2 ^ n) / (1000 * 2 ^ n))) ∧
  (∀ (tref : Nat) (s t : Int), s ≤ t → timeOf tref s ≤ timeOf tref t) ∧
  ([-8, -1, 0, 7, 8] : List Int).map (timeOf 250) = [125, 229, 250, 459, 500]

/-- The choice of lamp step and time: the smallest step whose candidate time is at least Tmin, clamped at Tmax with UNDER;
step 3 at Tmin with OVER where no step reaches Tmin; and UNDER at step 0 where T0 is above Tmax. The time always lies in
Tmin to Tmax. -/
def Obligations.LampStepChoice : Prop :=
  ∀ (cal : StandCalibration) (tref : Nat) (stop : Int) (time : Nat → Nat),
    time = (fun k => timeOf tref (stop + (([0, cal.e1, cal.e2, cal.e3] : List Nat).getD k 0 : Nat))) →
    cal.e1 ≤ cal.e2 → cal.e2 ≤ cal.e3 → cal.tmin ≤ cal.tmax →
    (time 0 ≤ time 1 ∧ time 1 ≤ time 2 ∧ time 2 ≤ time 3) ∧
    (cal.tmax < time 0 → chooseStep cal tref stop = (0, cal.tmax, false, true)) ∧
    (cal.tmin ≤ time 0 → time 0 ≤ cal.tmax → chooseStep cal tref stop = (0, time 0, false, false)) ∧
    (∀ k, k ≤ 3 → cal.tmin ≤ time k → (∀ j, j < k → time j < cal.tmin) →
      chooseStep cal tref stop =
        if time k ≤ cal.tmax then (k, time k, false, false) else (k, cal.tmax, false, true)) ∧
    (time 3 < cal.tmin → chooseStep cal tref stop = (3, cal.tmin, true, false)) ∧
    cal.tmin ≤ (chooseStep cal tref stop).2.1 ∧ (chooseStep cal tref stop).2.1 ≤ cal.tmax

/-! ## Measurements -/

/-- Calibrate Lamp and Meter Test: their refusals in order, and, when taken, ACCEPTED with the lamp settling at step 0
for the purpose, Calibrate Lamp's Metering Unit in CALIBRATION. Nothing else changes but the port. The end of the
settle: the lamp is LIT at its step with the settle time lit. A pass makes the Exposure Unit METER and the Metering
Unit PASS or TEST; a calibration's stage METER; an exposure opens the shutter, with EXPOSE and WATCH. -/
def Obligations.MeasurementsBeginAndSettle : Prop :=
  (∀ (a b : Byte) (s : State) (engaged : Bool), s.free →
     (engaged = true ↔ s.metering.state ≠ .idle ∨ s.exposure.state ≠ .idle ∨ s.transport.state = .advancing ∨
       s.transport.state = .leader) →
     exec (.calibrateLamp []) s = .next
       (if engaged = true then s.answered 52 .busy []
        else if s.orders.active ≠ none ∨ s.exposure.gate.reading = true then s.answered 52 .wrongState []
        else ({ s with
          metering := { s.metering with state := .calibration, calibrating := some ⟨none, []⟩ }
          exposure := s.settlingAt 0 .calibration }).answered 52 .accepted []) ∧
     exec (.meterTest [a, b]) s = .next
       (if 3 < a.toNat ∨ b.toInt < -24 ∨ 24 < b.toInt then s.answered 53 .outOfRange []
        else if engaged = true then s.answered 53 .busy []
        else if s.orders.active ≠ none then s.answered 53 .wrongState []
        else if s.calibration.refCal = 0 ∨ s.films.getD a.toNat none = none then s.answered 53 .notReady []
        else if s.exposure.gate.reading = false ∨
            s.calibration.heatLimit < s.exposure.heatUsed + s.calibration.settle + 20 then
          s.answered 53 .wrongState []
        else ({ s with
          metering := { s.metering with test := some ⟨a.toNat, b.toInt⟩ }
          exposure := s.settlingAt 0 .testPass }).answered 53 .accepted [])) ∧
  (∀ (s : State) (k : Nat), s.exposure.state = .settle → s.exposure.lamp = .settling k →
     (s.exposure.purpose = some .orderPass → exec .settleEnd s = .next { s with
       exposure := { s.exposure with lamp := .lit k, state := .meter, litTime := s.calibration.settle }
       metering := { s.metering with state := .pass } }) ∧
     (s.exposure.purpose = some .testPass → exec .settleEnd s = .next { s with
       exposure := { s.exposure with lamp := .lit k, state := .meter, litTime := s.calibration.settle }
       metering := { s.metering with state := .test } }) ∧
     (s.exposure.purpose = some .calibration → exec .settleEnd s = .next { s with
       exposure := { s.exposure with lamp := .lit k, state := .meter, litTime := s.calibration.settle } }) ∧
     (∀ step time, s.exposure.purpose = some (.exposure step time) → exec .settleEnd s = .next { s with
       exposure := { s.exposure with
         lamp := .lit k, state := .expose, shutterOpen := true, litTime := s.calibration.settle }
       metering := { s.metering with state := .watch, watchGroups := 0 } }))

/-- The end of a pass, with the lamp lit at step 0. For the active order: the record of the pass, the lamp out with the
settle time plus 20 ms of heat, and, where the lamp fails, LAMP_FAULT and the order PAUSED for LAMP with ORDER_PAUSED;
where it is good, the plan entries of the steps from the next on made afresh, the order EXPOSING, and its first frame
settling at its entry's step, or the order finished for HEAT_LIMIT. Where a cause meets the end, the unit is left IDLE with
the frame not yet begun, which waits behind a Cancel that only marks the order. A cause meets the end when it waits and
falls at the same moment: the waiting commands are taken one by one, up to one that falls later, because its count has not
run out or because another row of its wire has fallen. That the frame else begins in this very step, and what a meeting is,
is the model's choice (log 33). For a Meter Test: the record with its plan entry where the lamp is good, LAMP_FAULT where
it fails, and METERING_DONE. -/
def Obligations.PassEndsAreRecorded : Prop :=
  (∀ (s1 s2 s3 s4 : Scan) (s : State) (a : Averages) (ageing : Int) (failing : Prop), a = passAverages s1 s2 s3 s4 →
    ageing = (logEighths s.calibration.refCal : Int) - logEighths (max 1 a.ref) →
    (failing ↔ max 1 a.ref < 64 ∨ ageing < -16 ∨ 16 < ageing) → s.exposure.lamp = .lit 0 →
    (∀ o : Order, s.metering.state = .pass → s.exposure.purpose = some .orderPass → s.activeOrder = some o →
      (failing → exec (.orderPassEnd s1 s2 s3 s4) s = .next { s with
        metering := s.metering.recorded (.order .lampFault o.id a ageing)
        exposure := s.exposure.putOut (s.calibration.settle + 20) 0
        orders := { s.orders with table := s.orders.table.map fun (p : Order) =>
          if p.id = o.id then { p with state := .paused .lamp } else p }
        notices := s.notices.noting (64 ||| 2) }) ∧
      (¬ failing → ∀ (f : FilmKind) (plan : List PlanEntry) (e : PlanEntry) (made : State) (met : Meeting),
        s.films.getD o.filmKind none = some f →
        plan = (o.plan.getD []).take (o.nextStep - 1) ++
          (o.offsets.drop (o.nextStep - 1)).map (planEntry s.calibration f a) →
        e = plan.getD (o.nextStep - 1) .zero →
        made = { s with
          metering := s.metering.recorded (.order .ok o.id a ageing)
          exposure := s.exposure.putOut (s.calibration.settle + 20) 0
          orders := { s.orders with table := s.orders.table.map fun (p : Order) =>
            if p.id = o.id then { p with plan := some plan, state := .exposing } else p } } →
        met = causeMet false false .nothing s.pending made →
        exec (.orderPassEnd s1 s2 s3 s4) s = .next (match met with
          | .ending => made
          | .cancel => { made with exposure := { made.exposure with frameWaits := true } }
          | .nothing =>
            if made.exposure.heatUsed + e.heat ≤ s.calibration.heatLimit then
              { made with exposure := made.settlingAt e.step (.exposure e.step e.time) }
            else made.finishOrder o.id (.cutShort .heatLimit)))) ∧
    (∀ (kind : Nat) (offset : Int), s.metering.state = .test → s.metering.test = some ⟨kind, offset⟩ →
      (failing → exec (.testPassEnd s1 s2 s3 s4) s = .next { s with
        metering := s.metering.recorded (.test .lampFault kind offset (some a) (some ageing) none)
        exposure := s.exposure.putOut (s.calibration.settle + 20) 0
        notices := s.notices.noting (64 ||| 128) }) ∧
      (¬ failing → ∀ f, s.films.getD kind none = some f → exec (.testPassEnd s1 s2 s3 s4) s = .next { s with
        metering := s.metering.recorded
          (.test .ok kind offset (some a) (some ageing) (some (planEntry s.calibration f a offset)))
        exposure := s.exposure.putOut (s.calibration.settle + 20) 0
        notices := s.notices.noting 128 }))) ∧
  (∀ (received sent : Bool) (met : Meeting) (v : State), causeMet received sent met [] v = met) ∧
  (∀ (received sent : Bool) (met : Meeting) (c : Instr) (rest : List Instr) (v t : State)
     (course : State → Option (OrderState × Bool)), exec c v = .next t →
     course = (fun (u : State) => u.activeOrder.map fun (p : Order) => (p.state, p.cancelRequested)) →
     causeMet received sent met (c :: rest) v =
       if tellsTime c v = true ∨ (received = true ∧ receives c = true) ∨ (sent = true ∧ sends c = true) then met
       else if course t = course v then causeMet (received || receives c) (sent || sends c) met rest t
       else if bringsCause c = true then
         if t.activeOrder = none then .ending
         else causeMet (received || receives c) (sent || sends c) .cancel rest t
       else met) ∧
  (∀ (c : Instr) (v : State) (short : Debounce → Prop),
     short = (fun (d : Debounce) => ∃ n, d.count = some n ∧ n < 30) →
     (bringsCause c = true ↔ c = .gateChange ∨ c = .magazineRemoval ∨ c = .stopPress ∨ c = .broadcastStop ∨
       c = .broadcastRestart ∨ c = .replyEnd ∨ (∃ byte, c = .dataCharacter byte) ∨ (∃ body, c = .stop body) ∨
       (∃ body, c = .cancelOrder body)) ∧
     (tellsTime c v = true ↔ c = .settleEnd ∨ (∃ s1 s2 s3 s4, c = .orderPassEnd s1 s2 s3 s4) ∨ (c = .gateChange ∧ short v.exposure.gate) ∨
       (c = .keyReadingChange ∧ short v.accounts.key) ∨ (c = .startPress ∧ short v.panel.start) ∨
       (c = .stopPress ∧ short v.panel.stop) ∨ (c = .rewindPress ∧ short v.panel.rewind) ∨
       (∃ b, c = .buttonRelease b ∧ short (v.panel.button b)) ∨
       (c = .magazineRemoval ∧ ∃ n, v.transport.openFor = some n ∧ n < 30) ∨
       (c = .gapTimeout ∧ v.line.assembly ≠ .unaddressed ∧ v.line.gap < 20) ∨
       (c = .replyBegin ∧ v.line.transmitter = .waiting ∧ v.line.replyWait = 0) ∨
       (c = .writeEnd ∧ ∃ w, v.store.engine = some w ∧ w.elapsed < 6) ∨
       ((c = .busyTimeout ∨ c = .fedTimeout) ∧
         ((∃ l i, v.labels.printer = .sending l i ∧ v.labels.wait < 10000) ∨
          (∃ l i, v.labels.printer = .feeding l i ∧ v.labels.wait < 5000)))) ∧
     (sends c = true ↔ c = .replyBegin ∨ c = .replyEnd) ∧
     (receives c = true ↔ (∃ kind body, requestCommand kind body = some c) ∨ c = .broadcastStop ∨ c = .broadcastRestart ∨
       (∃ bits, c = .addressCharacter bits) ∨ (∃ byte, c = .dataCharacter byte) ∨ c = .badCharacter))

/-- Read Metering: the whole record in the layout of 12.5, every absent field 0, and then the fresh mark no. Nothing else
changes but the port. -/
def Obligations.ReadMeteringShowsTheRecord : Prop :=
  ∀ (s : State) (body : List Byte) (averages : Averages → List Byte), s.free →
    averages = (fun a =>
      pairField a.ref ++ pairField a.red ++ pairField a.green ++ pairField a.blue ++ byteField
        ((if a.ref = 0 then 1 else 0) + (if a.red = 0 then 2 else 0) + (if a.green = 0 then 4 else 0) +
          (if a.blue = 0 then 8 else 0) + (if a.ref = 1023 then 16 else 0) + (if a.red = 1023 then 32 else 0) +
          (if a.green = 1023 then 64 else 0) + (if a.blue = 1023 then 128 else 0))) →
    (match s.metering.record with
      | .none => body = []
      | .order outcome id a ageing =>
        body = byteField outcome.code ++ pairField id ++ averages a ++ [BitVec.ofInt 8 ageing] ++ List.replicate 21 0
      | .test outcome kind offset a ageing entry =>
        body = byteField outcome.code ++ [0, 0] ++ (match a with
            | none => List.replicate 9 0
            | some a => averages a) ++ [BitVec.ofInt 8 (ageing.getD 0)] ++ byteField kind ++ [BitVec.ofInt 8 offset] ++
          (match entry with
            | none => List.replicate 9 0
            | some e => [BitVec.ofInt 8 e.offset] ++ pairField (BitVec.ofInt 16 e.stop).toNat ++ byteField e.step ++
                pairField e.time ++ byteField e.flags.byte ++ pairField e.heat) ++ List.replicate 10 0
      | .calibration outcome steps a references offsets =>
        body = byteField outcome.code ++ [0, 0] ++ (match a with
            | none => List.replicate 9 0
            | some a => averages a) ++ List.replicate 12 0 ++ byteField steps ++ pairField (references.getD 0 0) ++
          pairField (references.getD 1 0) ++ pairField (references.getD 2 0) ++ [BitVec.ofInt 8 (offsets.getD 0 0)] ++
          [BitVec.ofInt 8 (offsets.getD 1 0)] ++ [BitVec.ofInt 8 (offsets.getD 2 0)]) →
    exec (.readMetering []) s = .next (({ s with metering := { s.metering with fresh := false } }).answered 54 .done
      (byteField (match s.metering.record with
          | .none => 0
          | .order _ _ _ _ => 1
          | .test _ _ _ _ _ _ => 2
          | .calibration _ _ _ _ _ => 3) ++ byteField (if s.metering.fresh then 1 else 0) ++ body))

/-- The stages of a calibration, each ending with the lamp lit at its step: the averages of the first and the REF averages
of the others are kept, and the next step settles with the heat of this one accrued. The end of the fourth judges the
results: accepted, they become the metering fields and place 0 is marked dirty; not, the calibration keeps its values;
either way the lamp is out, the record is written and METERING_DONE is pending. -/
def Obligations.CalibrationStages : Prop :=
  ∀ (s1 s2 s3 s4 : Scan) (s : State) (a : Averages) (n : Nat), a = passAverages s1 s2 s3 s4 →
    s.exposure.state = .meter → s.exposure.purpose = some .calibration → s.exposure.lamp = .lit n →
    (n = 0 → s.metering.calibrating = some ⟨none, []⟩ →
      exec (.calibrationStageEnd s1 s2 s3 s4) s = .next { s with
        metering := { s.metering with calibrating := some ⟨some a, []⟩ }
        exposure := { s.settlingAt 1 .calibration with
          heatUsed := (s.exposure.putOut (s.calibration.settle + 20) 0).heatUsed } }) ∧
    (∀ first references, s.metering.calibrating = some ⟨some first, references⟩ → n = references.length + 1 → n ≤ 2 →
      exec (.calibrationStageEnd s1 s2 s3 s4) s = .next { s with
        metering := { s.metering with calibrating := some ⟨some first, references ++ [a.ref]⟩ }
        exposure := { s.settlingAt (n + 1) .calibration with
          heatUsed := (s.exposure.putOut (s.calibration.settle + 5) n).heatUsed } }) ∧
    (∀ (first : Averages) (r1 r2 : Nat) (e : Nat → Int) (accepted : Prop),
      s.metering.calibrating = some ⟨some first, [r1, r2]⟩ → n = 3 →
      e = (fun r => (logEighths (max 1 first.ref) : Int) - logEighths (max 1 r)) →
      (accepted ↔
        64 ≤ first.ref ∧ (∀ v ∈ [first.ref, first.red, first.green, first.blue, r1, r2, a.ref], v ≠ 0 ∧ v ≠ 1023) ∧
        4 ≤ e r1 ∧ e r1 ≤ 12 ∧ 4 ≤ e r2 - e r1 ∧ e r2 - e r1 ≤ 12 ∧ 4 ≤ e a.ref - e r2 ∧ e a.ref - e r2 ≤ 12) →
      (accepted → ∃ u,
        u = State.markDirty { s with
          exposure := s.exposure.putOut (s.calibration.settle + 5) 3
          calibration := { s.calibration with
            refCal := first.ref, baseRed := first.red, baseGreen := first.green, baseBlue := first.blue
            e1 := (e r1).toNat, e2 := (e r2).toNat, e3 := (e a.ref).toNat } } 0 ∧
        exec (.calibrationStageEnd s1 s2 s3 s4) s = .next { u with
          metering := s.metering.recorded
            (.calibration .ok 4 (some first) [r1, r2, a.ref] [e r1, e r2, e a.ref])
          notices := u.notices.noting 128 }) ∧
      (¬ accepted →
        exec (.calibrationStageEnd s1 s2 s3 s4) s = .next { s with
          exposure := s.exposure.putOut (s.calibration.settle + 5) 3
          metering := s.metering.recorded
            (.calibration .failed 4 (some first) [r1, r2, a.ref] [e r1, e r2, e a.ref])
          notices := s.notices.noting 128 }))

/-- A group of the lamp watch: at or above the threshold, the last record's REF average divided by 2^(k+2) and rounded
down, at least 1, the watch goes on with nothing else changed; below it, LAMP_FAULT is raised, the exposure is aborted and
the order finishes CANCELLED where a cancel is requested, DONE where the spoiled frame was its last, and is PAUSED for LAMP
otherwise. The group stands for its lit time, the settle time and 5 ms for each group ended, within the exposure time, and
the lit time is at least that (the model's choice, log 1). -/
def Obligations.WatchGroupsGuardTheLamp : Prop :=
  ∀ (c1 c2 c3 c4 : Conversion) (s : State) (step time average reference : Nat) (counted : State),
    s.metering.state = .watch →
    s.exposure.purpose = some (.exposure step time) → average = averageReading c1 c2 c3 c4 →
    (match s.metering.record with
      | .order _ _ a _ => reference = max 1 a.ref
      | .test _ _ _ (some a) _ _ => reference = max 1 a.ref
      | .calibration _ _ (some a) _ _ => reference = max 1 a.ref
      | .none | .test _ _ _ none _ _ | .calibration _ _ none _ _ => False) →
    counted = { s with
      metering := { s.metering with watchGroups := s.metering.watchGroups + 1 }
      exposure := { s.exposure with
        litTime := max s.exposure.litTime (s.calibration.settle + min time ((s.metering.watchGroups + 1) * 5)) } } →
    (max 1 (reference / 2 ^ (step + 2)) ≤ average → exec (.watchGroupEnd c1 c2 c3 c4) s = .next counted) ∧
    (average < max 1 (reference / 2 ^ (step + 2)) → ∀ (o : Order) (u : State), s.activeOrder = some o →
      u = State.abortExposure { counted with notices := s.notices.noting 64 } true →
      exec (.watchGroupEnd c1 c2 c3 c4) s = .next
        (if o.cancelRequested = true then u.finishOrder o.id .cancelled
         else if o.unmade = 1 then u.finishOrder o.id .done
         else { u with
           orders := { u.orders with table := u.orders.table.map fun (p : Order) =>
             if p.id = o.id then { p with state := .paused .lamp } else p }
           notices := u.notices.noting 2 }))

/-! ## Film kinds, the stand calibration and rates -/

/-- Read Film Kind and Read Rates show the record as it stands, every figure 0 for an undefined film kind or an invalid
rate card, and change nothing but the port. -/
def Obligations.FilmKindsAndRatesAreRead : Prop :=
  ∀ (kind : Byte) (s : State), s.free →
    (3 < kind.toNat → exec (.readFilmKind [kind]) s = .next (s.answered 49 .outOfRange [])) ∧
    (kind.toNat ≤ 3 → s.films.getD kind.toNat none = none →
      exec (.readFilmKind [kind]) s = .next (s.answered 49 .done [0, 0, 0, 0, 0, 0, 0, 0])) ∧
    (∀ f, kind.toNat ≤ 3 → s.films.getD kind.toNat none = some f →
      exec (.readFilmKind [kind]) s = .next (s.answered 49 .done
        ([1] ++ pairField f.tref ++ [BitVec.ofInt 8 f.c] ++ byteField f.wr ++ byteField f.wg ++ byteField f.wb ++
          byteField f.defaultFrames))) ∧
    (s.accounts.rates = none →
      exec (.readRates []) s = .next (s.answered 85 .done [0, 0, 0, 0, 0, 0, 0, 0, 0, 0, 0, 0, 0])) ∧
    (∀ r, s.accounts.rates = some r →
      exec (.readRates []) s = .next (s.answered 85 .done
        ([1] ++ pairField r.setup ++ pairField r.frame0 ++ pairField r.frame1 ++ pairField r.frame2 ++
          pairField r.frame3 ++ pairField r.label)))

/-- Set Film Kind: OUT_OF_RANGE, WRONG_STATE while an order of the kind is in METERING or EXPOSING, or the record
defined as given, weights all 0 replaced by (0, 1, 0), its place marked dirty, and the record answered. Set Rates:
KEY_OFF, or the rate card replaced, place 5 marked dirty, and the rates answered. Set Stand Calibration: its
refusals in order, or the twelve bytes of settings replaced, REFcal 0 where a lamp code changed, place 0 marked
dirty, and the calibrated mark answered. Read Stand Calibration shows the record with the heat used and the gate,
and changes nothing but the port. -/
def Obligations.SettingsAreSet : Prop :=
  (∀ (kind t1 t2 c wr wg wb frames : Byte) (rates : List Byte) (s : State) (tref : Nat) (f : FilmKind)
     (card : RateCard), s.free →
     rates.length = 12 → tref = t1.toNat * 256 + t2.toNat →
     f = { tref := tref, c := c.toInt, wr := wr.toNat
           wg := if wr.toNat = 0 ∧ wg.toNat = 0 ∧ wb.toNat = 0 then 1 else wg.toNat
           wb := wb.toNat, defaultFrames := frames.toNat } →
     card = { setup := pairAt rates 0, frame0 := pairAt rates 2, frame1 := pairAt rates 4, frame2 := pairAt rates 6
              frame3 := pairAt rates 8, label := pairAt rates 10 } →
     exec (.setFilmKind [kind, t1, t2, c, wr, wg, wb, frames]) s = .next
       (if 3 < kind.toNat ∨ tref = 0 ∨ 2000 < tref ∨ c.toInt < -32 ∨ 32 < c.toInt ∨ 3 < wr.toNat ∨ 3 < wg.toNat ∨
           3 < wb.toNat ∨ frames.toNat < 12 ∨ 40 < frames.toNat then s.answered 48 .outOfRange []
        else if ∃ o ∈ s.orders.table, o.filmKind = kind.toNat ∧ (o.state = .metering ∨ o.state = .exposing) then
          s.answered 48 .wrongState []
        else (({ s.frameDone with films := s.films.set kind.toNat (some f) }).markDirty (1 + kind.toNat)).answered 48 .done
          ([1] ++ pairField f.tref ++ [c] ++ byteField f.wr ++ byteField f.wg ++ byteField f.wb ++
            byteField f.defaultFrames)) ∧
     exec (.setRates rates) s = .next
       (if s.accounts.key.reading = false then s.answered 84 .keyOff []
        else (State.markDirty { s.frameDone with accounts := { s.accounts with rates := some card } } 5).answered 84 .done ([1] ++ rates))) ∧
  (∀ (body : List Byte) (s : State) (heat settle c0 c1 c2 c3 tmin tmax : Nat) (new : StandCalibration), s.free →
     body.length = 12 → heat = pairAt body 0 → settle = pairAt body 2 → c0 = byteAt body 4 → c1 = byteAt body 5 →
     c2 = byteAt body 6 → c3 = byteAt body 7 → tmin = pairAt body 8 → tmax = pairAt body 10 →
     new = { s.calibration with
       heatLimit := heat, settle := settle, c0 := c0, c1 := c1, c2 := c2, c3 := c3, tmin := tmin, tmax := tmax
       refCal := if (c0, c1, c2, c3) = (s.calibration.c0, s.calibration.c1, s.calibration.c2, s.calibration.c3)
                 then s.calibration.refCal else 0 } →
     exec (.setStandCalibration body) s = .next
       (if ¬ (1000 ≤ heat ∧ heat ≤ 60000 ∧ 50 ≤ settle ∧ settle ≤ 1000 ∧ c1 < c0 ∧ c2 < c1 ∧ c3 < c2 ∧ 16 ≤ c3 ∧
           10 ≤ tmin ∧ tmin ≤ 200 ∧ 500 ≤ tmax ∧ tmax ≤ 30000) then s.answered 50 .outOfRange []
        else if s.orders.active ≠ none then s.answered 50 .wrongState []
        else if s.exposure.state ≠ .idle ∨ s.metering.state ≠ .idle then s.answered 50 .busy []
        else (({ s.frameDone with calibration := new }).markDirty 0).answered 50 .done
          [if new.refCal = 0 then 0 else 1]) ∧
     exec (.readStandCalibration []) s = .next (s.answered 51 .done
       (pairField s.calibration.heatLimit ++ pairField s.calibration.settle ++ byteField s.calibration.c0 ++
         byteField s.calibration.c1 ++ byteField s.calibration.c2 ++ byteField s.calibration.c3 ++
         pairField s.calibration.tmin ++ pairField s.calibration.tmax ++ pairField s.calibration.refCal ++
         pairField s.calibration.baseRed ++ pairField s.calibration.baseGreen ++ pairField s.calibration.baseBlue ++
         byteField s.calibration.e1 ++ byteField s.calibration.e2 ++ byteField s.calibration.e3 ++
         [if s.calibration.refCal = 0 then 0 else 1] ++ pairField s.exposure.heatUsed ++
         [if s.exposure.gate.reading then 1 else 0])))

/-! ## The Settings Store -/

/-- Marking a place dirty: a free engine takes the lowest dirty place at once, with its snapshot and the mark cleared; a
busy one leaves it marked. The end of a write puts the snapshot into its place and takes the lowest dirty place, or, with
a RESET pending, takes the RESET: the whole part is left as a fall of RESET met by an IDLE engine leaves it, and, where
RESET has risen again, as the rise after that leaves it. Nothing else changes. -/
def Obligations.WriteEngineTakesTheLowestPlace : Prop :=
  ∀ (s : State) (place : Nat), s.store.dirty.length = 38 → place < 38 → s.power.phase = .listening →
    (s.store.engine ≠ none ∨ s.store.resetPending = true →
      s.markDirty place = { s with store := { s.store with dirty := s.store.dirty.set place true } }) ∧
    (s.store.engine = none → s.store.resetPending = false → (∀ m ∈ s.store.dirty, m = false) →
      s.markDirty place = { s with store := { s.store with engine := some ⟨place, s.image place, 0⟩ } }) ∧
    (∀ w, s.store.engine = some w → s.store.resetPending = false →
      ((∀ m ∈ s.store.dirty, m = false) → exec .writeEnd s = .next
        { s with store := { s.store with places := s.store.places.set w.place w.image, engine := none } }) ∧
      (∀ p, p < 38 → s.store.dirty[p]? = some true → (∀ q, q < p → s.store.dirty[q]? = some false) →
        exec .writeEnd s = .next { s with store := { s.store with
          places := s.store.places.set w.place w.image, dirty := s.store.dirty.set p false
          engine := some ⟨p, s.image p, 0⟩ } })) ∧
    (∀ w, s.store.engine = some w → s.store.resetPending = true → ∃ t,
      exec .writeEnd s = .next t ∧ t.store.places = s.store.places.set w.place w.image ∧
      t.store.dirty = List.replicate 38 false ∧ t.store.engine = none ∧ t.store.resetPending = false ∧
      t.orders = { table := [], active := none } ∧ t.exposure.lamp = .off ∧ t.exposure.heatUsed = 0 ∧ t.rolls = [] ∧
      t.power = { s.power with phase := if s.power.resetHigh then .loading else .held } ∧
      runCommands (if s.power.resetHigh = true then [.resetFall, .resetRise] else [.resetFall])
        { s with store := { s.store with places := s.store.places.set w.place w.image, engine := none } } = .next t)

/-- What a stored record is read back as, in the model's layout (logs 7 and 8): the image of every record in range has its place's size and is judged valid with
that record, an account's with held 0 and no damage; an erased place is blank; a place that is neither erased nor sums to
90 is damaged, and then an account place with a readable number gives that account SUSPENDED and empty. -/
def Obligations.StoredRecordsRoundTrip : Prop :=
  (∀ c : StandCalibration, c.inRange = true → (withCheck 90 c.fields).length = 24 ∧
    judge readCalibration (withCheck 90 c.fields) = .valid c) ∧
  (∀ f : FilmKind, f.inRange = true → (withCheck 90 f.fields).length = 8 ∧
    judge readFilmKind (withCheck 90 f.fields) = .valid f) ∧
  (∀ r : RateCard, r.setup < 65536 → r.frame0 < 65536 → r.frame1 < 65536 → r.frame2 < 65536 → r.frame3 < 65536 →
    r.label < 65536 → (withCheck 90 r.fields).length = 13 ∧ judge readRateCard (withCheck 90 r.fields) = .valid r) ∧
  (∀ a : Account, a.inRange = true → (withCheck 90 a.fields).length = 18 ∧
    judge readAccount (withCheck 90 a.fields) = .valid { a with held := 0, damaged := false } ∧
    accountOf (withCheck 90 a.fields) = some { a with held := 0, damaged := false }) ∧
  (∀ p : Nat, p < 38 → judge readCalibration (erasedPlace p) = .blank ∧ judge readFilmKind (erasedPlace p) = .blank ∧
    judge readRateCard (erasedPlace p) = .blank ∧ judge readAccount (erasedPlace p) = .blank) ∧
  (∀ image : List Byte, byteSum image ≠ 90 → (∃ b ∈ image, b ≠ 255) →
    judge readCalibration image = .damaged ∧ judge readFilmKind image = .damaged ∧
    judge readRateCard image = .damaged ∧ judge readAccount image = .damaged ∧
    accountOf image =
      (if pairAt image 0 + pairAt image 2 = 65535 ∧ 1 ≤ pairAt image 0 ∧ pairAt image 0 ≤ 9999 then
         some { number := pairAt image 0, suspended := true, allowance := 0, warn := 0, spent := 0, held := 0
                damaged := true }
       else none))

/-! ## Power and RESET -/

/-- The phases: POWER_ON takes a part without power, a fall of RESET a part with power, to the values of a RESET, held while
RESET is low and in the load when it is high: every block at its reset value, with the pins' levels, the straps' readings
and the places kept. A rise begins the load: every place gives its record, and a damaged place, or a number met again,
raises STORE, and nothing else does. The inputs begin there: a closed gate switch awaits its first reading, the counts of
the closed gate, KEY and button switches begin, and the printer state is what its lines give. A fall met by a write under way is deferred and changes nothing else. The end of the load reads the
straps and begins to listen. A power loss keeps the places, but for the one being written. The model's choices here: the
places are read as the load begins (log 9), the printer state follows its lines then and while held (log 12), POWER_ON is
taken in any phase (log 13), and the working copies while held are defaults (log 26); its count of looks goes on (log 34). -/
def Obligations.PowerAndResetCourse : Prop :=
  ∀ (station : BitVec 4) (rate : BitVec 2) (torn : List Byte) (s : State),
    (∃ t, exec .powerOn s = .next t ∧ t.power = { s.power with phase := if s.power.resetHigh then .loading else .held } ∧
      t.store.places = s.store.places ∧ t.store.engine = none ∧ t.orders = { table := [], active := none } ∧
      t.rolls = [] ∧ t.labels.queue = [] ∧ t.labels.mark = none ∧ t.exposure.lamp = .off) ∧
    (s.power.phase = .listening ∨ s.power.phase = .loading → s.store.engine = none → ∃ t,
      exec .resetFall s = .next t ∧ t.power = { phase := .held, resetHigh := false } ∧
      t.store.places = s.store.places ∧ (∀ m ∈ t.store.dirty, m = false) ∧
      t.orders = { table := [], active := none } ∧ t.rolls = [] ∧ t.notices.pending = 0 ∧ t.notices.enabled = 0 ∧
      t.exposure.lamp = .off ∧ t.exposure.shutterOpen = false ∧ t.exposure.heatUsed = 0 ∧
      t.exposure.gate.reading = false ∧ t.transport.state = .empty ∧ t.transport.motor = .off ∧
      t.labels.locked = false ∧ t.accounts.key.reading = false ∧ t.line.inService = none) ∧
    (∀ (blank : State) (unread : Debounce → Debounce),
      unread = (fun (d : Debounce) => { level := d.level, reading := false, count := none }) →
      blank = { State.reset with
        line := { State.reset.line with station := s.line.station, rate := s.line.rate }
        exposure := { State.reset.exposure with gate := unread s.exposure.gate }
        transport := { State.reset.transport with detect1 := s.transport.detect1, detect2 := s.transport.detect2 }
        labels := { State.reset.labels with
          stockHigh := s.labels.stockHigh, faultHigh := s.labels.faultHigh, looks := s.labels.looks,
          printer := if s.labels.faultHigh = false then .faulted .faultLine
                     else if s.labels.stockHigh = false then .stockOut else .idle }
        accounts := { State.reset.accounts with key := unread s.accounts.key }
        store := { State.reset.store with places := s.store.places }
        panel := { start := unread s.panel.start, stop := unread s.panel.stop, rewind := unread s.panel.rewind }
        pending := s.pending } →
      (s.power.phase ≠ .off → s.store.engine = none →
        exec .resetFall s = .next { blank with power := { phase := .held, resetHigh := false } }) ∧
      (s.store.engine = none →
        exec (.powerLoss torn) s = .next { blank with power := { s.power with phase := .off } }) ∧
      (s.power.resetHigh = false →
        exec .powerOn s = .next { blank with power := { phase := .held, resetHigh := false } }) ∧
      (s.power.resetHigh = true →
        exec .powerOn s = exec .resetRise { blank with power := { phase := .held, resetHigh := false } })) ∧
    (s.power.phase = .listening → s.store.engine ≠ none →
      exec .resetFall s = .next { s with
        power := { s.power with resetHigh := false }, store := { s.store with resetPending := true } }) ∧
    (s.power.phase = .held → ∃ t, exec .resetRise s = .next t ∧ t.power = { phase := .loading, resetHigh := true } ∧
      t.store = s.store ∧ t.orders = s.orders ∧ t.rolls = s.rolls ∧ t.metering = s.metering ∧ t.line = s.line ∧
      t.pending = s.pending ∧
      t.calibration = (match judge readCalibration (s.store.places.getD 0 (erasedPlace 0)) with
        | .valid c => c
        | .blank | .damaged => StandCalibration.default) ∧
      (∀ k, k < 4 → t.films.getD k none =
        (match judge readFilmKind (s.store.places.getD (1 + k) (erasedPlace (1 + k))) with
          | .valid f => some f
          | .blank | .damaged => none)) ∧
      t.accounts.rates = (match judge readRateCard (s.store.places.getD 5 (erasedPlace 5)) with
        | .valid r => some r
        | .blank | .damaged => none) ∧
      t.accounts.slots.length = 32 ∧
      (∀ n, n < 32 → ∀ offered : Nat → Option Account,
        offered = (fun m => accountOf (s.store.places.getD (6 + m) (erasedPlace (6 + m)))) →
        ((∃ m a b, m < n ∧ offered m = some a ∧ offered n = some b ∧ a.number = b.number) →
          t.accounts.slots.getD n none = none ∧ hasNotice t.notices.pending .store = true) ∧
        ((∀ m a b, m < n → offered m = some a → offered n = some b → a.number ≠ b.number) →
          t.accounts.slots.getD n none = offered n)) ∧
      (∀ p, p < 6 → (match p with
          | 0 => judge readCalibration (s.store.places.getD 0 (erasedPlace 0)) = .damaged
          | 5 => judge readRateCard (s.store.places.getD 5 (erasedPlace 5)) = .damaged
          | p => judge readFilmKind (s.store.places.getD p (erasedPlace p)) = .damaged) →
        hasNotice t.notices.pending .store = true) ∧
      (∀ n, n < 32 → judge readAccount (s.store.places.getD (6 + n) (erasedPlace (6 + n))) = .damaged →
        hasNotice t.notices.pending .store = true) ∧
      (hasNotice t.notices.pending .store = true → hasNotice s.notices.pending .store = true ∨
        judge readCalibration (s.store.places.getD 0 (erasedPlace 0)) = .damaged ∨
        (∃ p, 1 ≤ p ∧ p ≤ 4 ∧ judge readFilmKind (s.store.places.getD p (erasedPlace p)) = .damaged) ∨
        judge readRateCard (s.store.places.getD 5 (erasedPlace 5)) = .damaged ∨
        (∃ n, n < 32 ∧ judge readAccount (s.store.places.getD (6 + n) (erasedPlace (6 + n))) = .damaged) ∨
        (∃ m n a b, m < n ∧ n < 32 ∧ accountOf (s.store.places.getD (6 + m) (erasedPlace (6 + m))) = some a ∧
          accountOf (s.store.places.getD (6 + n) (erasedPlace (6 + n))) = some b ∧ a.number = b.number)) ∧
      t.notices = { s.notices with pending := t.notices.pending } ∧
      (∀ kind, kind ≠ .store → hasNotice t.notices.pending kind = hasNotice s.notices.pending kind)) ∧
    (∀ afresh : Debounce → Debounce,
      afresh = (fun (d : Debounce) => { d with count := if d.level = true then some 0 else none }) →
      s.power.phase = .held → ∃ t, exec .resetRise s = .next t ∧
      t.exposure = { s.exposure with gate := afresh s.exposure.gate, firstReading := s.exposure.gate.level } ∧
      t.accounts.key = afresh s.accounts.key ∧
      t.panel = { start := afresh s.panel.start, stop := afresh s.panel.stop, rewind := afresh s.panel.rewind } ∧
      t.labels = { s.labels with
        printer := if s.labels.faultHigh = false then .faulted .faultLine
                   else if s.labels.stockHigh = false then .stockOut else .idle }) ∧
    (s.power.phase = .held → s.transport.state = .empty → ∀ t, exec .resetRise s = .next t →
      t.exposure.gate.count = (if s.exposure.gate.level then some 0 else none) ∧
      (t.transport.state = .empty ↔ s.transport.detect1 = false ∧ s.transport.detect2 = false)) ∧
    (s.power.phase ≠ .held → exec .resetRise s = .next { s with power := { s.power with resetHigh := true } }) ∧
    (s.power.phase = .loading → s.store.engine = none → (∀ m ∈ s.store.dirty, m = false) →
      exec (.loadEnd station rate) s = .next { s with
        power := { s.power with phase := .listening }
        line := { station := station, rate := rate, assembly := .unaddressed, gap := 0, inService := none, held := none
                  transmitter := .idle, replyWait := 0 } }) ∧
    (∃ t, exec (.powerLoss torn) s = .next t ∧ t.power = { s.power with phase := .off } ∧
      (s.store.engine = none → t.store.places = s.store.places) ∧
      (∀ w, s.store.engine = some w → torn.length = Config.placeSize w.place →
        t.store.places = s.store.places.set w.place torn))

/-! ## Exposures, advances and the gate -/

/-- The end of an exposure, which counts only with the shutter open: the shutter closed and the lamp out with the settle
time plus T of heat, the frame recorded EXPOSED at the frame rate, the frame rate and, at the first exposed frame, the setup
fee posted, the progress of R2, and the advance asked for: the motor forward for this order, or, at the roll's last usable
frame, END with ROLL_END and roll end at the order at once. -/
def Obligations.ExposureTimeEndCompletesTheFrame : Prop :=
  ∀ (s : State) (o : Order) (k step time : Nat) (e : PlanEntry) (entry : Frame) (dark charged : State),
    s.exposure.state = .expose →
    s.exposure.purpose = some (.exposure step time) → s.exposure.lamp = .lit k → s.activeOrder = some o →
    e = (o.plan.getD []).getD (o.nextStep - 1) .zero →
    entry = { state := .exposed, order := o.id, account := o.account, step := o.nextStep, copy := o.nextCopy
              offset := e.offset, stop := e.stop, lamp := e.step, time := e.time, flags := e.flags
              charge := o.frameRate } →
    dark = { s with
      exposure := s.exposure.putOut (s.calibration.settle + time) k, metering := s.metering.atRest
      rolls := s.rolls.map fun (r : Roll) =>
        if s.transport.roll = some r.number ∧ s.transport.currentFrame ≠ 0 then
          { r with frames := r.frames.set (s.transport.currentFrame - 1) entry }
        else r } →
    charged = (if o.exposed = 0 then (dark.post o.id .frame o.frameRate).post o.id .setup o.setupFee
               else dark.post o.id .frame o.frameRate) →
    ∃ moved, moved = { charged with orders := { charged.orders with
        table := charged.orders.table.map fun (p : Order) =>
          if p.id = o.id then
            { p with
              taken := p.taken ++ [(s.transport.roll.getD 0, s.transport.currentFrame)], exposed := p.exposed + 1
              nextCopy := if p.copies < p.nextCopy + 1 then 1 else p.nextCopy + 1
              nextStep := if p.copies < p.nextCopy + 1 then p.nextStep + 1 else p.nextStep }
          else p } } ∧
      exec .exposureTimeEnd s = .next
        (if dark.usableFrames ≤ s.transport.currentFrame then
           State.advanceOutcome { moved with
             transport := { s.transport with state := .atEnd }, notices := moved.notices.noting 4 } o.id false
         else { moved with transport := { s.transport with
           state := .advancing, motor := .forward, pulseCount := 0, pulseSeen := false, quietTime := 0
           advanceFor := some o.id } })

/-- What an advance's outcome does to the order that asked for it: nothing unless it is EXPOSING; DONE where no planned
frame remains; CANCELLED where a cancel is requested; on completion the next frame begins, its lamp settling at its entry's
step, or the order finishes for HEAT_LIMIT with no frame used; on roll end and stall it is PAUSED for ROLL. -/
def Obligations.AdvanceOutcomeMovesTheOrder : Prop :=
  ∀ (s : State) (o : Order) (moved : Bool) (e : PlanEntry), s.findOrder o.id = some o →
    e = (o.plan.getD []).getD (o.nextStep - 1) .zero →
    s.advanceOutcome o.id moved =
      (if o.state ≠ .exposing then s
       else if o.offsets.length * o.copies ≤ o.exposed + o.spoiled then s.finishOrder o.id .done
       else if o.cancelRequested = true then s.finishOrder o.id .cancelled
       else if moved = true then
         (if s.exposure.heatUsed + e.heat ≤ s.calibration.heatLimit then
            { s with exposure := s.settlingAt e.step (.exposure e.step e.time) }
          else s.finishOrder o.id (.cutShort .heatLimit))
       else { s with
         orders := { s.orders with table := s.orders.table.map fun (p : Order) =>
           if p.id = o.id then { p with state := .paused .roll } else p }
         notices := s.notices.noting 2 })

/-- A posting or a release: no more than the part holds (log 15) leaves the order's part and the account's held together, and
for a posting spent rises by it, the account's place marked dirty when spent changed and the store as it was when not.
ACCOUNT_LOW is not raised where held covers the amount. A refund lowers spent alone, not below 0, and marks the place dirty
when spent changed. Nothing else changes. -/
def Obligations.MoneyMovesTogether : Prop :=
  ∀ (s : State) (o : Order) (a : Account) (slot : Nat) (part : HoldPart) (amount left : Nat) (posted : Bool),
    s.findOrder o.id = some o → s.findAccount o.account = some a → s.slotOf o.account = some slot →
    (match part with
      | .setup => left = min amount o.setupHold
      | .frame => left = min amount o.frameHold
      | .label => left = min amount o.labelHold) → left ≤ a.held →
    a.spent + a.held ≤ a.allowance →
    let t := s.moveHold o.id part amount posted
    t.findOrder o.id = some (match part with
      | .setup => { o with setupHold := o.setupHold - left }
      | .frame => { o with frameHold := o.frameHold - left }
      | .label => { o with labelHold := o.labelHold - left }) ∧
    (∀ i, i ≠ o.id → t.findOrder i = s.findOrder i) ∧
    t.findAccount o.account =
      some { a with held := a.held - left, spent := if posted then a.spent + left else a.spent } ∧
    (∀ n, n ≠ o.account → t.findAccount n = s.findAccount n) ∧
    t = { s with orders := t.orders, accounts := t.accounts, store := t.store } ∧ t.orders.active = s.orders.active ∧
    t.accounts = { s.accounts with slots := t.accounts.slots } ∧
    (posted = false ∨ left = 0 → t.store = s.store) ∧
    (posted = true → left ≠ 0 →
      t = State.markDirty { s with orders := t.orders, accounts := t.accounts } (6 + slot)) ∧
    (∀ charge, ∃ u, u = s.refund o.account charge ∧
      u.findAccount o.account = some { a with spent := a.spent - charge } ∧
      (∀ n, n ≠ o.account → u.findAccount n = s.findAccount n) ∧
      u = { s with accounts := u.accounts, store := u.store } ∧ u.accounts = { s.accounts with slots := u.accounts.slots } ∧
      (a.spent - charge = a.spent → u = { s with accounts := u.accounts }) ∧
      (a.spent - charge ≠ a.spent → u = State.markDirty { s with accounts := u.accounts } (6 + slot)))

/-- A change of the gate, its switch held 30 ms: the reading changes; a lighting under way ends as its purpose requires; an
insertion sets the heat used to 0; SLIDE is raised, but not at the first reading after a RESET; and an opening cuts the
active order short, but for one that waits for its final advance. With the unit IDLE, as below, nothing else changes. The
model's choices: an order whose exposure was aborted is cut short even where that frame was its last (log 17); a test
still in its settle is recorded ABANDONED like one in its scans (log 18); and a first reading that meets a calibration
abandons it with METERING_DONE and no SLIDE (log 14). -/
def Obligations.GateChangeIsHandledInOrder : Prop :=
  ∀ (s : State) (read : State), s.exposure.gate.count.isSome = true →
    read = { s with exposure := { s.exposure with
      gate := ⟨s.exposure.gate.level, s.exposure.gate.level, none⟩, firstReading := false } } →
    (s.exposure.gate.level = true → s.exposure.purpose = none →
      exec .gateChange s = .next { read with
        exposure := { read.exposure with heatUsed := 0 }
        notices := if s.exposure.firstReading then s.notices else s.notices.noting 32 }) ∧
    (s.exposure.gate.level = true → s.exposure.purpose = some .calibration →
      ∀ r, s.metering.calibrating = some r →
      exec .gateChange s = .next { read with
        exposure := { read.exposure.putOut 0 0 with heatUsed := 0 }
        metering := s.metering.recorded (.calibration .failed r.stages r.first r.references r.offsets)
        notices := s.notices.noting (if s.exposure.firstReading = true then 128 else 128 ||| 32) }) ∧
    (s.exposure.gate.level = false → s.exposure.firstReading = false → s.exposure.purpose = none →
      exec .gateChange s = .next
        (match s.activeOrder with
          | none => { read with notices := s.notices.noting 32 }
          | some o =>
            if o.state = .exposing ∧ o.unmade = 0 then { read with notices := s.notices.noting 32 }
            else State.finishOrder { read with notices := s.notices.noting 32 } o.id (.cutShort .slideRemoved))) ∧
    (∀ t k, s.exposure.gate.level = false → s.exposure.firstReading = false → s.exposure.purpose = some .testPass →
      s.metering.test = some t → s.orders.active = none →
      s.exposure.lamp = .settling k ∨ s.exposure.lamp = .lit k →
      exec .gateChange s = .next { read with
        exposure := read.exposure.putOut s.exposure.litTime k
        metering := s.metering.recorded (.test .abandoned t.filmKind t.offset none none none)
        notices := s.notices.noting (128 ||| 32) }) ∧
    (∀ o, s.exposure.gate.level = false → s.exposure.firstReading = false → s.exposure.purpose = some .orderPass →
      s.activeOrder = some o → o.state = .metering → ∃ u, u = read.abandonPass ∧
      exec .gateChange s = .next
        (State.finishOrder { u with notices := u.notices.noting 32 } o.id (.cutShort .slideRemoved))) ∧
    (∀ o step time, s.exposure.gate.level = false → s.exposure.firstReading = false →
      s.exposure.purpose = some (.exposure step time) → s.activeOrder = some o →
      ∃ u, u = read.abortExposure true ∧
      exec .gateChange s = .next
        (State.finishOrder { u with notices := u.notices.noting 32 } o.id (.cutShort .slideRemoved)))

/-! ## Magazines and film -/

/-- Declare Roll: its refusals in order, or the new roll in camera, IN_CAMERA and BLANK at the clamped or default count,
and the leader begun. Rewind, as a request or a press: taken in LOADED, READY and END with no order in METERING or EXPOSING,
it runs the motor in reverse. Its end, after a pulse, is REWOUND with ROLL_READY; its jam, before any, JAMMED with
MAGAZINE; the quiet time is left at the limit that ended the motor operation (logs 1 and 30). -/
def Obligations.RollsAreDeclaredAndRewound : Prop :=
  ∀ (a b c : Byte) (s : State) (number count kind frames : Nat) (roll : Roll) (rewinding : TransportUnit)
    (working : Bool),
    number = a.toNat * 256 + b.toNat → count = c.toNat →
    (s.transport.state = .loaded → s.transport.loadedKind = some kind) →
    frames = (if count = 0 then ((s.films.getD kind none).map FilmKind.defaultFrames).getD 0
              else if count < 12 then 12 else if 40 < count then 40 else count) →
    roll = { number := number, filmKind := kind, declared := frames, usable := frames, current := 0, state := .inCamera
             frames := List.replicate frames .blank } →
    rewinding = { s.transport with
      state := .rewinding, motor := .reverse, pulseCount := 0, pulseSeen := false, quietTime := 0 } →
    (working = true ↔ ∃ o, s.activeOrder = some o ∧ (o.state = .metering ∨ o.state = .exposing)) →
    (s.free → exec (.declareRoll [a, b, c]) s = .next
      (if number = 0 then s.answered 32 .outOfRange []
       else if s.transport.state ≠ .loaded then s.answered 32 .wrongState []
       else if ∃ r ∈ s.rolls, r.number = number then s.answered 32 .duplicate []
       else if 4 ≤ s.rolls.length then s.answered 32 .tableFull []
       else if count = 0 ∧ s.films.getD kind none = none then s.answered 32 .notReady []
       else ({ s with
         rolls := s.rolls ++ [roll]
         transport := { s.transport with
           state := .leader, motor := .forward, pulseCount := 0, pulseSeen := false, quietTime := 0
           roll := some number, currentFrame := 0 } }).answered 32 .accepted (byteField frames))) ∧
    (s.free → exec (.rewind []) s = .next
      (if working = false ∧ (s.transport.state = .loaded ∨ s.transport.state = .ready ∨ s.transport.state = .atEnd) then
         ({ s with transport := rewinding }).answered 33 .accepted []
       else s.answered 33 .wrongState [])) ∧
    (s.panel.rewind.count.isSome = true → s.panel.rewind.level = true → exec .rewindPress s = .next
      (if working = false ∧ (s.transport.state = .loaded ∨ s.transport.state = .ready ∨ s.transport.state = .atEnd) then
         { s with panel := { s.panel with rewind := ⟨true, true, none⟩ }, transport := rewinding }
       else { s with panel := { s.panel with rewind := ⟨true, true, none⟩ } })) ∧
    (s.transport.state = .rewinding → s.transport.pulseSeen = true →
      exec .rewindEnd s = .next { s with
        transport := { s.transport with state := .rewound, motor := .off, currentFrame := 0, quietTime := 600 }
        notices := s.notices.noting 8192 } ∧
      exec .rewindJam s = .next s) ∧
    (s.transport.state = .rewinding → s.transport.pulseSeen = false →
      exec .rewindJam s = .next { s with
        transport := { s.transport with state := .jammed, motor := .off, quietTime := 1000 }
        notices := s.notices.noting 8 } ∧
      exec .rewindEnd s = .next s)

/-- Seating: a change of the contacts takes EMPTY into SEATING when a contact closes and MISSEATED back into it when both
have; a changed reading counts afresh, and the removal count runs from the reading's leaving BOTH. BOTH held in SEATING
reads the code contacts into LOADED; ONE held makes it MISSEATED; NONE held brings back EMPTY. MAGAZINE is raised but at
an EMPTY reached from a SEATING that nothing had reported. Nothing else changes, and an event in a state that does not
admit it changes nothing (log 3). -/
def Obligations.MagazinesAreSeated : Prop :=
  ∀ (c1 c2 : Bool) (s : State) (t : TransportUnit), t = s.transport →
    (s.running = true → exec (.detectReadingChange c1 c2) s = .next { s with transport :=
      if c1.toNat + c2.toNat = t.detect1.toNat + t.detect2.toNat then { t with detect1 := c1, detect2 := c2 }
      else { t with
        detect1 := c1, detect2 := c2, held := 0
        openFor := if c1 = true ∧ c2 = true then none
                   else if t.detect1 = true ∧ t.detect2 = true then some 0 else t.openFor
        state := if (t.state = .empty ∧ (c1 = true ∨ c2 = true)) ∨ (t.state = .misseated ∧ c1 = true ∧ c2 = true)
                 then .seating else t.state
        fromMisseated := if t.state = .empty ∧ (c1 = true ∨ c2 = true) then false
                         else if t.state = .misseated ∧ c1 = true ∧ c2 = true then true else t.fromMisseated } }) ∧
    exec (.magazineSeated c1 c2) s = .next
      (if t.state = .seating ∧ t.detect1 = true ∧ t.detect2 = true then { s with
         transport := { t with
           state := .loaded, loadedKind := some (c1.toNat + 2 * c2.toNat), roll := none, currentFrame := 0 }
         notices := s.notices.noting 8 }
       else s) ∧
    exec .misseated s = .next
      (if t.state = .seating ∧ t.detect1 ≠ t.detect2 then { s with
         transport := { t with state := .misseated }, notices := s.notices.noting 8 }
       else s) ∧
    exec .seatingEmpty s = .next
      (if t.detect1 = false ∧ t.detect2 = false ∧ (t.state = .seating ∨ t.state = .misseated) then { s with
         transport := { t with state := .empty, fromMisseated := false }
         notices := if t.state = .misseated ∨ t.fromMisseated = true then s.notices.noting 8 else s.notices }
       else s)

/-- A removal, taken with a contact open: nothing without a seated magazine, where no removal can occur (log 3); a cleared
transport, in SEATING while a contact is still closed, with MAGAZINE from LOADED and for a magazine without a roll; the roll
OUT besides from REWOUND; and from every other state the fogging removal. There the active order is cut short for
MAGAZINE_REMOVED first, its lighting ended; then the roll is FOGGED with its EXPOSED entries, each charge refunded to its
account, and each of their orders that wants labels owes one label less and has one label rate less held, which leaves its
account's held as well where the accounts balance; and FOGGED and MAGAZINE are pending. The store is what the refunds
alone, in frame order, make of it: the place of every account whose spent fell is dirty or being written, and no other
place becomes dirty (the engine takes a dirty place inside the step: log 11). -/
def Obligations.RemovalsFogOrClear : Prop :=
  ∀ (s : State) (cleared : TransportUnit), ¬ (s.transport.detect1 = true ∧ s.transport.detect2 = true) →
    cleared = { s.transport with
      state := if s.transport.detect1 = false ∧ s.transport.detect2 = false then .empty else .seating
      loadedKind := none, roll := none, currentFrame := 0, motor := .off, pulseCount := 0, pulseSeen := false
      advanceFor := none, openFor := none
      fromMisseated := if s.transport.detect1 = false ∧ s.transport.detect2 = false then s.transport.fromMisseated
                       else false } →
    (s.transport.state = .empty ∨ s.transport.state = .seating ∨ s.transport.state = .misseated →
      exec .magazineRemoval s = .next s) ∧
    (s.transport.state = .loaded ∨
        (s.transport.roll = none ∧ (s.transport.state = .rewinding ∨ s.transport.state = .rewound ∨
          s.transport.state = .jammed)) →
      exec .magazineRemoval s = .next { s with transport := cleared, notices := s.notices.noting 8 }) ∧
    (∀ n, s.transport.state = .rewound → s.transport.roll = some n →
      exec .magazineRemoval s = .next { s with
        transport := cleared, notices := s.notices.noting 8
        rolls := s.rolls.map fun (r : Roll) => if r.number = n then { r with state := .out } else r }) ∧
    (∀ (n : Nat) (r : Roll) (cut : State) (fogged : Nat → Nat) (given : Order → Nat),
      s.transport.state = .leader ∨ s.transport.state = .ready ∨ s.transport.state = .advancing ∨
        s.transport.state = .atEnd ∨ s.transport.state = .rewinding ∨ s.transport.state = .jammed →
      s.transport.roll = some n → (s.orders.table.map Order.id).Nodup →
      cut = (match s.activeOrder with
        | none => s
        | some o => State.finishOrder (match s.exposure.purpose with
            | some .orderPass => s.abandonPass
            | some (.exposure _ _) => s.abortExposure false
            | _ => s) o.id (.cutShort .magazineRemoved)) →
      cut.findRoll n = some r →
      fogged = (fun id => r.frames.countP fun f => f.state = .exposed ∧ f.order = id) →
      given = (fun (q : Order) => if q.labels = true then min (fogged q.id * q.labelRate) q.labelHold else 0) → ∃ t,
      exec .magazineRemoval s = .next t ∧ t.transport = cleared ∧ t.exposure = cut.exposure ∧ t.metering = cut.metering ∧
      t.orders.active = cut.orders.active ∧ t.notices = cut.notices.noting 24 ∧ t.store.places = s.store.places ∧
      t.rolls = (cut.rolls.map fun (p : Roll) => if p.number = n then
        { p with
          state := .fogged
          frames := p.frames.map fun (f : Frame) => if f.state = .exposed then { f with state := .fogged } else f }
        else p) ∧
      t.orders.table = (cut.orders.table.map fun (q : Order) => if q.labels = true then
        { q with
          labelsOutstanding := q.labelsOutstanding - fogged q.id, labelHold := q.labelHold - fogged q.id * q.labelRate }
        else q) ∧
      (∀ number a, cut.findAccount number = some a → ∃ b, t.findAccount number = some b ∧
        b = { a with
          held := b.held
          spent := a.spent - ((r.frames.filter fun f => f.state = .exposed ∧ f.account = number).map Frame.charge).sum } ∧
        (s.accountsBalance → b.held = a.held -
          ((cut.orders.table.filter fun q => q.account = number).map given).sum)) ∧
      t.store = ((r.frames.filter fun f => f.state = .exposed).foldl
        (fun (u : State) (f : Frame) => u.refund f.account f.charge) cut).store ∧
      (∀ number i a b, cut.findAccount number = some a → cut.slotOf number = some i → t.findAccount number = some b →
        b.spent ≠ a.spent → 6 + i < cut.store.dirty.length →
        t.store.dirty.getD (6 + i) false = true ∨ ∃ w, t.store.engine = some w ∧ w.place = 6 + i) ∧
      (∀ p, t.store.dirty.getD p false = true → cut.store.dirty.getD p false = true ∨
        ∃ number i a b, p = 6 + i ∧ cut.slotOf number = some i ∧ cut.findAccount number = some a ∧
          t.findAccount number = some b ∧ b.spent ≠ a.spent) ∧
      t = { s with
        transport := cleared, orders := t.orders, rolls := t.rolls, accounts := t.accounts, exposure := t.exposure
        metering := t.metering, notices := t.notices, store := t.store })

/-- Pulses and stalls: a pulse with the motor OFF changes nothing; in a rewind it is seen and restarts the quiet time; in a
leader and an advance it is counted too. The 16th of a leader brings READY at frame 1 with ROLL_READY; the 8th of an
advance READY at the next frame and its completion to the order that asked for it. A leader's stall is END with no usable
frame; an advance's END with the usable frames cut to the current frame and the stall at its order; both raise ROLL_END. The
quiet time and the pulse count left when the motor stops are the model's (logs 1 and 30). -/
def Obligations.PulsesAndStallsMoveTheFilm : Prop :=
  ∀ (s : State) (t : TransportUnit) (camera : (Roll → Roll) → List Roll), t = s.transport →
    camera = (fun f => s.rolls.map fun (r : Roll) => if t.roll = some r.number then f r else r) →
    (t.motor = .off → exec .perforationPulse s = .next s) ∧
    (t.motor = .reverse → t.state = .rewinding →
      exec .perforationPulse s = .next { s with transport := { t with pulseSeen := true, quietTime := 0 } }) ∧
    (t.motor = .forward → (t.state = .leader ∧ t.pulseCount + 1 < 16) ∨ (t.state = .advancing ∧ t.pulseCount + 1 < 8) →
      exec .perforationPulse s = .next { s with transport := { t with
        pulseSeen := true, quietTime := 0, pulseCount := t.pulseCount + 1 } }) ∧
    (t.motor = .forward → t.state = .leader → t.pulseCount = 15 → exec .perforationPulse s = .next { s with
      transport := { t with
        state := .ready, motor := .off, pulseSeen := true, quietTime := 0, pulseCount := 16, currentFrame := 1 }
      rolls := camera fun r => { r with current := 1 }, notices := s.notices.noting 8192 }) ∧
    (t.motor = .forward → t.state = .advancing → t.pulseCount = 7 → ∀ u : State, u = { s with
        transport := { t with
          state := .ready, motor := .off, pulseSeen := true, quietTime := 0, pulseCount := 8
          currentFrame := t.currentFrame + 1, advanceFor := none }
        rolls := camera fun r => { r with current := t.currentFrame + 1 } } →
      exec .perforationPulse s = .next (match t.advanceFor with
        | none => u
        | some id => u.advanceOutcome id true)) ∧
    (t.state = .leader → exec .leaderStall s = .next { s with
      transport := { t with state := .atEnd, motor := .off, currentFrame := 0, quietTime := 400 }
      rolls := camera fun r => { r with usable := 0 }, notices := s.notices.noting 4 }) ∧
    (t.state = .advancing → ∀ u : State, u = { s with
        transport := { t with state := .atEnd, motor := .off, quietTime := 400, advanceFor := none }
        rolls := camera fun r => { r with usable := t.currentFrame }, notices := s.notices.noting 4 } →
      exec .advanceStall s = .next (match t.advanceFor with
        | none => u
        | some id => u.advanceOutcome id false))

/-! ## Rolls -/

/-- Roll Report shows the record and the ten entries of a page in the layout of 12.5. Close Roll removes a FOGGED roll, a
KEEP_REPORTED one that no queue entry names, and an OUT one, whose EXPOSED entries are rejected first: each of their orders
that wants labels owes one label less and has one label rate less held, which leaves its account's held as well where the
accounts balance. An IN_CAMERA roll and one still named are WRONG_STATE. -/
def Obligations.RollsAreReportedAndClosed : Prop :=
  ∀ (a b page : Byte) (s : State) (number : Nat), s.free → number = a.toNat * 256 + b.toNat →
    exec (.rollReport [a, b, page]) s = .next
      (if 3 < page.toNat then s.answered 34 .outOfRange []
       else match s.findRoll number with
        | none => s.answered 34 .noSuch []
        | some r => s.answered 34 .done
          (pairField r.number ++ byteField r.filmKind ++ byteField r.state.code ++ byteField r.declared ++
            byteField r.usable ++ byteField r.current ++
            (match r.state with
              | .keepReported d => byteField d.length ++ d
              | .inCamera | .out | .fogged => [0]) ++
            [FrameState.blank, .exposed, .spoiled, .kept, .rejected, .labelled, .fogged].map
              (fun state => BitVec.ofNat 8 (r.frames.countP fun f => f.state = state)) ++
            [page] ++ byteField (min 10 (r.frames.length - 10 * page.toNat)) ++
            (List.range 10).flatMap fun i =>
              match r.frames[10 * page.toNat + i]? with
              | none => []
              | some f => byteField (10 * page.toNat + i + 1) ++ byteField f.state.code ++ pairField f.order ++
                  pairField f.account ++ byteField f.step ++ byteField f.copy ++ [BitVec.ofInt 8 f.offset] ++
                  pairField (BitVec.ofInt 16 f.stop).toNat ++ byteField f.lamp ++ pairField f.time ++
                  byteField f.flags.byte ++ pairField f.charge)) ∧
    (s.findRoll number = none → exec (.closeRoll [a, b]) s = .next (s.answered 36 .noSuch [])) ∧
    (∀ r, s.findRoll number = some r →
      (r.state = .inCamera → exec (.closeRoll [a, b]) s = .next (s.answered 36 .wrongState [])) ∧
      (∀ d, r.state = .keepReported d → (∃ e ∈ s.labels.queue, e.roll = number) →
        exec (.closeRoll [a, b]) s = .next (s.answered 36 .wrongState [])) ∧
      (r.state = .fogged ∨ ((∃ d, r.state = .keepReported d) ∧ ∀ e ∈ s.labels.queue, e.roll ≠ number) →
        exec (.closeRoll [a, b]) s = .next
          (({ s with rolls := s.rolls.filter fun (q : Roll) => q.number ≠ number }).answered 36 .done [0])) ∧
      (r.state = .out → ∀ (rejected : Nat → Nat) (given : Order → Nat),
        rejected = (fun id => r.frames.countP fun f => f.state = .exposed ∧ f.order = id) →
        given = (fun (q : Order) => if q.labels = true then min (rejected q.id * q.labelRate) q.labelHold else 0) →
        (s.orders.table.map Order.id).Nodup → ∃ t, exec (.closeRoll [a, b]) s = .next t ∧
        t.line = (s.answered 36 .done (byteField (r.frames.countP fun f => f.state = .exposed))).line ∧
        t.rolls = (s.rolls.filter fun (q : Roll) => q.number ≠ number) ∧
        t = { s with line := t.line, rolls := t.rolls, orders := t.orders, accounts := t.accounts } ∧
        t.orders = { s.orders with table := s.orders.table.map fun (q : Order) => if q.labels = true then
          { q with
            labelsOutstanding := q.labelsOutstanding - rejected q.id
            labelHold := q.labelHold - rejected q.id * q.labelRate }
          else q } ∧
        (∀ n x, s.findAccount n = some x → ∃ y, t.findAccount n = some y ∧ y = { x with held := y.held } ∧
          (s.accountsBalance → y.held = x.held - ((s.orders.table.filter fun q => q.account = n).map given).sum))))

/-- Keep Report: its refusals in order, or the roll KEEP_REPORTED with its date, its EXPOSED entries KEPT where listed and
REJECTED where not, one queue entry in frame order for each kept frame whose order wants labels, and the four counts
answered. Each rejected frame of an order that wants labels lowers that order's labels outstanding by one and its label hold
by one label rate, which leaves its account's held as well where the accounts balance. Where the printer was IDLE and an
entry is queued, the label of the head is composed and begins to be sent (its first look at PRN_BUSY: log 34). -/
def Obligations.KeepReportSettlesTheRoll : Prop :=
  ∀ (body : List Byte) (s : State) (f : KeepFields), s.free → body.length ≤ 63 → keepLengthOk body = true →
    f = readKeep body →
    (¬ (f.roll ≠ 0 ∧ f.date.length = 6 ∧ f.kept.length ≤ 40 ∧ ∀ n ∈ f.kept, 1 ≤ n ∧ n ≤ 40) →
      exec (.keepReport body) s = .next (s.answered 35 .outOfRange [])) ∧
    ((f.roll ≠ 0 ∧ f.date.length = 6 ∧ f.kept.length ≤ 40 ∧ ∀ n ∈ f.kept, 1 ≤ n ∧ n ≤ 40) →
      (s.findRoll f.roll = none → exec (.keepReport body) s = .next (s.answered 35 .noSuch [])) ∧
      (∀ r, s.findRoll f.roll = some r → r.state ≠ .out →
        exec (.keepReport body) s = .next (s.answered 35 .wrongState [])) ∧
      (∀ (r : Roll) (entries : List LabelEntry), s.findRoll f.roll = some r → r.state = .out →
        entries = (List.range r.frames.length).filterMap (fun i => (r.frames[i]?).bind fun (e : Frame) =>
          if e.state = .exposed ∧ i + 1 ∈ f.kept ∧ ((s.findOrder e.order).any fun o => o.labels) = true
          then some ⟨r.number, i + 1, e.order⟩ else none) →
        (48 < s.labels.queue.length + entries.length →
          exec (.keepReport body) s = .next (s.answered 35 .tableFull [])) ∧
        (s.labels.queue.length + entries.length ≤ 48 → ∀ (kept rejected : Nat) (rejectedOf : Nat → Nat)
            (given : Order → Nat),
          kept = (List.range r.frames.length).countP (fun i =>
            ((r.frames[i]?).any fun e => e.state = .exposed) && decide (i + 1 ∈ f.kept)) →
          rejected = (r.frames.countP fun e => e.state = .exposed) - kept →
          rejectedOf = (fun id => (List.range r.frames.length).countP fun i => (r.frames[i]?).any fun e =>
            decide (e.state = .exposed ∧ e.order = id ∧ ¬ i + 1 ∈ f.kept)) →
          given = (fun (q : Order) => if q.labels = true then min (rejectedOf q.id * q.labelRate) q.labelHold else 0) →
          (s.orders.table.map Order.id).Nodup → ∃ t,
          exec (.keepReport body) s = .next t ∧
          t.line = (s.answered 35 .done (byteField kept ++ byteField rejected ++ byteField (f.kept.dedup.length - kept) ++
            byteField entries.length)).line ∧
          t = { s with line := t.line, rolls := t.rolls, orders := t.orders, accounts := t.accounts, labels := t.labels } ∧
          t.labels = (match s.labels.printer, s.labels.queue ++ entries with
            | .idle, e :: _ =>
              LabelUnit.beginLabel { s.labels with queue := s.labels.queue ++ entries } (t.composeLabel e)
            | _, queue => { s.labels with queue := queue }) ∧
          (∀ m, m ≠ f.roll → t.findRoll m = s.findRoll m) ∧ t.rolls.map Roll.number = s.rolls.map Roll.number ∧
          (∃ q, t.findRoll f.roll = some q ∧
            q = { r with state := .keepReported (f.date.map storedCharacter), frames := q.frames } ∧
            q.frames.length = r.frames.length ∧
            ∀ (i : Nat) (e : Frame), r.frames[i]? = some e → q.frames[i]? = some (if e.state = .exposed then
              { e with state := if i + 1 ∈ f.kept then .kept else .rejected } else e)) ∧
          t.orders = { s.orders with table := s.orders.table.map fun (q : Order) => if q.labels = true then
            { q with
              labelsOutstanding := q.labelsOutstanding - rejectedOf q.id
              labelHold := q.labelHold - rejectedOf q.id * q.labelRate }
            else q } ∧
          (∀ n x, s.findAccount n = some x → ∃ y, t.findAccount n = some y ∧ y = { x with held := y.held } ∧
            (s.accountsBalance → y.held = x.held - ((s.orders.table.filter fun q => q.account = n).map given).sum)))))

/-! ## Labels -/

/-- The printer: a label begins with its first byte, placed and strobed at once where PRN_BUSY is found low, its level then
being a free value (log 34). A byte taken places and strobes the next (the data lines between strobes: log 19), and the last
byte brings FEEDING; a FED pulse in FEEDING takes the head entry off the queue, makes its frame LABELLED, lowers what its
order owes, posts its label rate, and begins the next head or raises LABELS_DONE. A timeout, and a fall of a line of a
running part, in the states they act in, abandon the label with PRINTER pending and the queue kept. A fall in STOCK_OUT and
FAULTED, and a rise, move the line's level alone; so does a fall at a part without power or held by RESET, the model's
choice (log 12). A byte taken, a FED pulse
and the two timeouts change nothing in the states that do not admit them (log 3). -/
def Obligations.PrinterFollowsItsEvents : Prop :=
  ∀ (s : State) (l : LabelUnit), l = s.labels →
    (∀ label : List Byte, l.beginLabel label = { l with
      printer := .sending label 0, wait := 0, looks := l.looks + 1, strobed := Config.busyLow l.looks
      dataLines := if Config.busyLow l.looks = true then label.getD 0 0 else 0 }) ∧
    (∀ label i, l.printer = .sending label i →
      (i + 1 < label.length → exec .byteTaken s = .next { s with labels := { l with
        printer := .sending label (i + 1), wait := 0, dataLines := label.getD (i + 1) 0, strobed := true } }) ∧
      (label.length ≤ i + 1 → exec .byteTaken s = .next { s with labels := { l with
        printer := .feeding label i, wait := 0, dataLines := 0, strobed := false } }) ∧
      exec .busyTimeout s = .next { s with
        labels := { l with printer := .faulted .busyTimeout, wait := 0, dataLines := 0, strobed := false }
        notices := s.notices.noting 512 } ∧
      exec .fedPulse s = .next s ∧ exec .fedTimeout s = .next s) ∧
    (∀ label i, l.printer = .feeding label i →
      exec .fedTimeout s = .next { s with
        labels := { l with printer := .faulted .fedTimeout, wait := 0, dataLines := 0, strobed := false }
        notices := s.notices.noting 512 } ∧
      exec .byteTaken s = .next s ∧ exec .busyTimeout s = .next s ∧
      (∀ e rest o u, l.queue = e :: rest → s.findOrder e.order = some o →
        u = State.post { s with
          rolls := s.rolls.map fun (r : Roll) =>
            if r.number = e.roll ∧ e.frame ≠ 0 then
              { r with frames := r.frames.modify (e.frame - 1) fun (f : Frame) =>
                if f.state = .kept then { f with state := .labelled } else f }
            else r
          orders := { s.orders with table := s.orders.table.map fun (p : Order) =>
            if p.id = e.order then { p with labelsOutstanding := p.labelsOutstanding - 1 } else p } }
          e.order .label o.labelRate →
        exec .fedPulse s = .next
          (match rest with
            | [] => { u with
              labels := { l with queue := [], printer := .idle, wait := 0, dataLines := 0, strobed := false }
              notices := u.notices.noting 256 }
            | head :: others => { u with
              labels := LabelUnit.beginLabel { l with queue := head :: others } (u.composeLabel head) }))) ∧
    (l.printer = .idle ∨ l.printer = .stockOut ∨ (∃ cause, l.printer = .faulted cause) →
      exec .byteTaken s = .next s ∧ exec .busyTimeout s = .next s ∧ exec .fedPulse s = .next s ∧
      exec .fedTimeout s = .next s) ∧
    (s.running = true →
      l.printer = .idle ∨ (∃ label i, l.printer = .sending label i) ∨ (∃ label i, l.printer = .feeding label i) →
      exec .prnStockFall s = .next { s with
        labels := { l with stockHigh := false, printer := .stockOut, wait := 0, dataLines := 0, strobed := false }
        notices := s.notices.noting 512 } ∧
      exec .prnFaultFall s = .next { s with
        labels := { l with
          faultHigh := false, printer := .faulted .faultLine, wait := 0, dataLines := 0, strobed := false }
        notices := s.notices.noting 512 }) ∧
    (s.running = false ∨ l.printer = .stockOut ∨ (∃ cause, l.printer = .faulted cause) →
      exec .prnStockFall s = .next { s with labels := { l with stockHigh := false } } ∧
      exec .prnFaultFall s = .next { s with labels := { l with faultHigh := false } }) ∧
    exec .prnStockRise s = .next { s with labels := { l with stockHigh := true } } ∧
    exec .prnFaultRise s = .next { s with labels := { l with faultHigh := true } }

/-- Set Library Mark: OUT_OF_RANGE, LOCKED, or the mark stored with other characters as "?". Label Status shows the
Label Unit in the layout of 12.5, a high line as 1 (the model's choice, log 32). Resume Printer: WRONG_STATE with the
printer state while a line is low; else, from STOCK_OUT or FAULTED, IDLE or the head entry's label begun (its first look at
PRN_BUSY and the data lines: logs 19 and 34); in other states nothing. The label of an entry: the
mark, a space and the catalogue number; the title cut to 24 characters; and the twenty characters of the date, a
space, the roll number in five digits, "-", the frame number in two, a space and the bracket mark of the frame's
offset; a line feed behind each line and a form feed at the end; 27 to 71 bytes. The digits are the decimal digits,
and the bracket mark is the sign, the whole stops, a point and the tenths rounded to nearest, halves up. -/
def Obligations.LabelRequestsAndLabels : Prop :=
  (∀ (n : Byte) (text : List Byte) (s : State) (l : LabelUnit), s.free → l = s.labels → text.length = n.toNat →
     text.length ≤ 62 →
     exec (.setLibraryMark (n :: text)) s = .next
       (if n.toNat = 0 ∨ 8 < n.toNat then s.answered 7 .outOfRange []
        else if l.locked = true then s.answered 7 .locked []
        else ({ s with labels := { l with mark := some (text.map storedCharacter) } }).answered 7 .done
          (n :: text.map storedCharacter)) ∧
     exec (.labelStatus []) s = .next (s.answered 64 .done
       (byteField l.printer.code ++ byteField l.printer.causeCode ++ byteField l.queue.length ++
         (match l.queue with
           | [] => [0, 0, 0, 0, 0, 0]
           | e :: _ => [1] ++ pairField e.roll ++ byteField e.frame ++ pairField e.order) ++
         [if l.stockHigh then 1 else 0] ++ [if l.faultHigh then 1 else 0] ++
         (match l.printer with
           | .sending label i => byteField i ++ byteField label.length
           | .idle | .feeding _ _ | .stockOut | .faulted _ => [0, 0]) ++
         byteField (l.mark.getD []).length ++ l.mark.getD [] ++ [if l.locked then 1 else 0])) ∧
     (l.printer = .idle ∨ (∃ label i, l.printer = .sending label i) ∨
         (∃ label i, l.printer = .feeding label i) →
       exec (.resumePrinter []) s = .next (s.answered 65 .done (byteField l.printer.code))) ∧
     (l.printer = .stockOut ∨ (∃ cause, l.printer = .faulted cause) →
       (l.stockHigh = false ∨ l.faultHigh = false →
         exec (.resumePrinter []) s = .next (s.answered 65 .wrongState (byteField l.printer.code))) ∧
       (l.stockHigh = true → l.faultHigh = true →
         exec (.resumePrinter []) s = .next
           (match l.queue with
             | [] => ({ s with labels := { l with
                 printer := .idle, wait := 0, dataLines := 0, strobed := false } }).answered 65 .done [0]
             | e :: _ => ({ s with labels := l.beginLabel (s.composeLabel e) }).answered 65 .done [1])))) ∧
  ((∀ (s : State) (e : LabelEntry) (o : Order) (r : Roll) (f : Frame) (date mark : Text), s.labels.mark = some mark →
     s.findOrder e.order = some o → s.findRoll e.roll = some r → r.state = .keepReported date → e.frame ≠ 0 →
     r.frames[e.frame - 1]? = some f →
     ∃ roll frame bracket : Text,
       s.composeLabel e = mark ++ [32] ++ o.catalogue ++ [10] ++ o.title.take 24 ++ [10] ++
         (date ++ [32] ++ roll ++ [45] ++ frame ++ [32] ++ bracket) ++ [10, 12] ∧
       roll.length = 5 ∧ frame.length = 2 ∧ bracket.length = 4 ∧
       (∀ c ∈ roll ++ frame, 48 ≤ c.toNat ∧ c.toNat ≤ 57) ∧
       (e.roll < 65536 → roll.foldl (fun n c => 10 * n + (c.toNat - 48)) 0 = e.roll) ∧
       (e.frame ≤ 40 → frame.foldl (fun n c => 10 * n + (c.toNat - 48)) 0 = e.frame) ∧
       (-24 ≤ f.offset → f.offset ≤ 24 → ∃ whole tenths : Nat,
         bracket.map BitVec.toNat =
           [if 0 < f.offset then 43 else if f.offset < 0 then 45 else 32, 48 + whole, 46, 48 + tenths] ∧
         whole = f.offset.natAbs / 8 ∧ tenths ≤ 9 ∧ 20 * (f.offset.natAbs - 8 * whole) < 16 * tenths + 8 ∧
         16 * tenths ≤ 20 * (f.offset.natAbs - 8 * whole) + 8) ∧
       (1 ≤ mark.length → mark.length ≤ 8 → 1 ≤ o.catalogue.length → o.catalogue.length ≤ 14 → date.length = 6 →
         27 ≤ (s.composeLabel e).length ∧ (s.composeLabel e).length ≤ 71)) ∧
   ([-24, -12, -8, -5, -1, 0, 3, 7, 10, 20] : List Int).map (fun o => (bracketMark o).map BitVec.toNat) =
     [[45, 51, 46, 48], [45, 49, 46, 53], [45, 49, 46, 48], [45, 48, 46, 54], [45, 48, 46, 49], [32, 48, 46, 48],
      [43, 48, 46, 52], [43, 48, 46, 57], [43, 49, 46, 51], [43, 50, 46, 53]])

/-! ## Accounts -/

/-- Set Account: OUT_OF_RANGE; for a number in the table, BELOW_COMMITTED or its state, allowance and warn level replaced
with the damaged mark cleared; for a new number, TABLE_FULL or an account in the lowest free slot. The slot's place is
marked dirty, ACCOUNT_LOW is raised where the low mark goes from no to yes, and the record is answered. -/
def Obligations.AccountsAreSet : Prop :=
  ∀ (body : List Byte) (s : State) (number allowance warn : Nat) (slots : List (Option Account)) (low : Account → Bool)
    (report : Nat → Account → List Byte), s.free → body.length = 11 → number = pairAt body 0 →
    allowance = quadAt body 3 → warn = quadAt body 7 → slots = s.accounts.slots →
    low = (fun (a : Account) => decide (a.allowance - a.spent - a.held < a.warn)) →
    report = (fun (i : Nat) (a : Account) => byteField i ++ pairField a.number ++ [if a.suspended then 1 else 0] ++ quadField a.allowance ++
      quadField a.warn ++ quadField a.spent ++ quadField a.held ++ quadField (a.allowance - a.spent - a.held) ++
      [if low a then 1 else 0] ++ [if a.damaged then 1 else 0]) →
    (number = 0 ∨ 9999 < number ∨ 1 < byteAt body 2 ∨ 9999999 < allowance ∨ 9999999 < warn →
      exec (.setAccount body) s = .next (s.answered 80 .outOfRange [])) ∧
    (number ≠ 0 → number ≤ 9999 → byteAt body 2 ≤ 1 → allowance ≤ 9999999 → warn ≤ 9999999 →
      (∀ i a, slots[i]? = some (some a) → a.number = number →
        (∀ j b, j < i → slots[j]? = some (some b) → b.number ≠ number) →
        (allowance < a.spent + a.held → exec (.setAccount body) s = .next (s.answered 80 .belowCommitted [])) ∧
        (a.spent + a.held ≤ allowance → ∀ (new : Account) (u : State),
          new = { a with
            suspended := decide (byteAt body 2 = 1), allowance := allowance, warn := warn, damaged := false } →
          u = State.markDirty { s.frameDone with
            accounts := { s.accounts with slots := slots.set i (some new) } } (6 + i) →
          exec (.setAccount body) s = .next (({ u with
            notices := if low a = false ∧ low new = true then s.notices.noting 1024 else s.notices }).answered 80 .done
            (report i new)))) ∧
      ((∀ a, some a ∈ slots → a.number ≠ number) →
        ((∀ m ∈ slots, m ≠ none) → exec (.setAccount body) s = .next (s.answered 80 .tableFull [])) ∧
        (∀ i, slots[i]? = some none → (∀ j, j < i → slots[j]? ≠ some none) → ∀ (new : Account) (u : State),
          new = { number := number, suspended := decide (byteAt body 2 = 1), allowance := allowance, warn := warn
                  spent := 0, held := 0, damaged := false } →
          u = State.markDirty { s.frameDone with
            accounts := { s.accounts with slots := slots.set i (some new) } } (6 + i) →
          exec (.setAccount body) s = .next (({ u with
            notices := if low new = true then s.notices.noting 1024 else s.notices }).answered 80 .done
            (report i new)))))

/-- Account Report shows an account, or the summary of all slots, and changes nothing but the port. Close Account frees the
slot of an account with no held money, its place marked dirty, and answers what was spent. Reset Period, with the KEY on,
sets spent to 0 for one account or for all, holds and every other field kept, and answers how many; the place of each
account whose spent changed is marked dirty, slot by slot in ascending order, and no other place is (the engine takes the
lowest dirty place at the first mark: log 11). -/
def Obligations.AccountsAreReportedClosedAndReset : Prop :=
  ∀ (b1 b2 : Byte) (s : State) (number : Nat) (clear : Account → Account), s.free →
    number = b1.toNat * 256 + b2.toNat →
    clear = (fun (a : Account) => if number = 0 ∨ a.number = number then { a with spent := 0 } else a) →
    (9999 < number → exec (.accountReport [b1, b2]) s = .next (s.answered 81 .outOfRange []) ∧
      exec (.closeAccount [b1, b2]) s = .next (s.answered 82 .outOfRange []) ∧
      exec (.resetPeriod [b1, b2]) s = .next (s.answered 83 .outOfRange [])) ∧
    (number = 0 → exec (.accountReport [b1, b2]) s = .next (s.answered 81 .done (s.accounts.slots.flatMap fun slot =>
        match slot with
        | none => [0, 0, 0]
        | some a => pairField a.number ++ byteField ((if a.suspended then 1 else 0) +
            (if a.allowance - a.spent - a.held < a.warn then 2 else 0) + (if a.damaged then 4 else 0)))) ∧
      exec (.closeAccount [b1, b2]) s = .next (s.answered 82 .outOfRange [])) ∧
    (1 ≤ number → number ≤ 9999 → (∀ a, some a ∈ s.accounts.slots → a.number ≠ number) →
      exec (.accountReport [b1, b2]) s = .next (s.answered 81 .noSuch []) ∧
      exec (.closeAccount [b1, b2]) s = .next (s.answered 82 .noSuch []) ∧
      (s.accounts.key.reading = true → exec (.resetPeriod [b1, b2]) s = .next (s.answered 83 .noSuch []))) ∧
    (1 ≤ number → number ≤ 9999 → ∀ i a, s.accounts.slots[i]? = some (some a) → a.number = number →
      (∀ j b, j < i → s.accounts.slots[j]? = some (some b) → b.number ≠ number) →
      exec (.accountReport [b1, b2]) s = .next (s.answered 81 .done
        (byteField i ++ pairField number ++ [if a.suspended then 1 else 0] ++ quadField a.allowance ++
          quadField a.warn ++ quadField a.spent ++ quadField a.held ++ quadField (a.allowance - a.spent - a.held) ++
          [if a.allowance - a.spent - a.held < a.warn then 1 else 0] ++ [if a.damaged then 1 else 0])) ∧
      (a.held ≠ 0 → exec (.closeAccount [b1, b2]) s = .next (s.answered 82 .wrongState [])) ∧
      (a.held = 0 → exec (.closeAccount [b1, b2]) s = .next
        ((State.markDirty { s.frameDone with
          accounts := { s.accounts with slots := s.accounts.slots.set i none } } (6 + i)).answered 82 .done
          (quadField a.spent)))) ∧
    (number ≤ 9999 → s.accounts.key.reading = false →
      exec (.resetPeriod [b1, b2]) s = .next (s.answered 83 .keyOff [])) ∧
    (number ≤ 9999 → s.accounts.key.reading = true → (number = 0 ∨ s.findAccount number ≠ none) →
      ∃ t, exec (.resetPeriod [b1, b2]) s = .next t ∧
      t.accounts = { s.accounts with slots := s.accounts.slots.map (Option.map clear) } ∧
      t.line.inService = some ⟨83, .done, byteField (if number = 0 then s.accounts.accounts.length else 1)⟩ ∧
      t.store.places = s.store.places ∧ t = { s with line := t.line, accounts := t.accounts, store := t.store } ∧
      ((s.accounts.accounts.map Account.number).Nodup → s.accounts.slots.length = 32 → ∃ u : State,
        u = (List.range 32).foldl (fun (v : State) i => match v.accounts.slots[i]? with
          | some (some a) =>
            if (number = 0 ∨ a.number = number) ∧ a.spent ≠ 0 then
              State.markDirty { v with
                accounts := { v.accounts with slots := v.accounts.slots.set i (some { a with spent := 0 }) } } (6 + i)
            else v
          | _ => v) s.frameDone ∧
        t = u.answered 83 .done (byteField (if number = 0 then s.accounts.accounts.length else 1))) ∧
      ((∀ a, some a ∈ s.accounts.slots → number = 0 ∨ a.number = number → a.spent = 0) → t.store = s.store))
end

