-- ==== Sys2Proof/Laws/State.lean ====
section
/-! SUPPORT. One lemma per field per update of the state: what each `State.with…` leaves in each field. -/

namespace Sys2Proof.Machine

/-! ## withPower -/

@[simp] theorem State.withPower_power (s : State) (v : Power) : (s.withPower v).power = v := rfl
@[simp] theorem State.withPower_line (s : State) (v : Power) : (s.withPower v).line = s.line := rfl
@[simp] theorem State.withPower_notices (s : State) (v : Power) : (s.withPower v).notices = s.notices := rfl
@[simp] theorem State.withPower_orders (s : State) (v : Power) : (s.withPower v).orders = s.orders := rfl
@[simp] theorem State.withPower_metering (s : State) (v : Power) : (s.withPower v).metering = s.metering := rfl
@[simp] theorem State.withPower_films (s : State) (v : Power) : (s.withPower v).films = s.films := rfl
@[simp] theorem State.withPower_calibration (s : State) (v : Power) : (s.withPower v).calibration = s.calibration := rfl
@[simp] theorem State.withPower_exposure (s : State) (v : Power) : (s.withPower v).exposure = s.exposure := rfl
@[simp] theorem State.withPower_transport (s : State) (v : Power) : (s.withPower v).transport = s.transport := rfl
@[simp] theorem State.withPower_rolls (s : State) (v : Power) : (s.withPower v).rolls = s.rolls := rfl
@[simp] theorem State.withPower_labels (s : State) (v : Power) : (s.withPower v).labels = s.labels := rfl
@[simp] theorem State.withPower_accounts (s : State) (v : Power) : (s.withPower v).accounts = s.accounts := rfl
@[simp] theorem State.withPower_store (s : State) (v : Power) : (s.withPower v).store = s.store := rfl
@[simp] theorem State.withPower_panel (s : State) (v : Power) : (s.withPower v).panel = s.panel := rfl
@[simp] theorem State.withPower_pending (s : State) (v : Power) : (s.withPower v).pending = s.pending := rfl

/-! ## withLine -/

@[simp] theorem State.withLine_power (s : State) (v : LinePort) : (s.withLine v).power = s.power := rfl
@[simp] theorem State.withLine_line (s : State) (v : LinePort) : (s.withLine v).line = v := rfl
@[simp] theorem State.withLine_notices (s : State) (v : LinePort) : (s.withLine v).notices = s.notices := rfl
@[simp] theorem State.withLine_orders (s : State) (v : LinePort) : (s.withLine v).orders = s.orders := rfl
@[simp] theorem State.withLine_metering (s : State) (v : LinePort) : (s.withLine v).metering = s.metering := rfl
@[simp] theorem State.withLine_films (s : State) (v : LinePort) : (s.withLine v).films = s.films := rfl
@[simp] theorem State.withLine_calibration (s : State) (v : LinePort) : (s.withLine v).calibration = s.calibration := rfl
@[simp] theorem State.withLine_exposure (s : State) (v : LinePort) : (s.withLine v).exposure = s.exposure := rfl
@[simp] theorem State.withLine_transport (s : State) (v : LinePort) : (s.withLine v).transport = s.transport := rfl
@[simp] theorem State.withLine_rolls (s : State) (v : LinePort) : (s.withLine v).rolls = s.rolls := rfl
@[simp] theorem State.withLine_labels (s : State) (v : LinePort) : (s.withLine v).labels = s.labels := rfl
@[simp] theorem State.withLine_accounts (s : State) (v : LinePort) : (s.withLine v).accounts = s.accounts := rfl
@[simp] theorem State.withLine_store (s : State) (v : LinePort) : (s.withLine v).store = s.store := rfl
@[simp] theorem State.withLine_panel (s : State) (v : LinePort) : (s.withLine v).panel = s.panel := rfl
@[simp] theorem State.withLine_pending (s : State) (v : LinePort) : (s.withLine v).pending = s.pending := rfl

/-! ## withNotices -/

@[simp] theorem State.withNotices_power (s : State) (v : NoticeUnit) : (s.withNotices v).power = s.power := rfl
@[simp] theorem State.withNotices_line (s : State) (v : NoticeUnit) : (s.withNotices v).line = s.line := rfl
@[simp] theorem State.withNotices_notices (s : State) (v : NoticeUnit) : (s.withNotices v).notices = v := rfl
@[simp] theorem State.withNotices_orders (s : State) (v : NoticeUnit) : (s.withNotices v).orders = s.orders := rfl
@[simp] theorem State.withNotices_metering (s : State) (v : NoticeUnit) : (s.withNotices v).metering = s.metering := rfl
@[simp] theorem State.withNotices_films (s : State) (v : NoticeUnit) : (s.withNotices v).films = s.films := rfl
@[simp] theorem State.withNotices_calibration (s : State) (v : NoticeUnit) : (s.withNotices v).calibration = s.calibration := rfl
@[simp] theorem State.withNotices_exposure (s : State) (v : NoticeUnit) : (s.withNotices v).exposure = s.exposure := rfl
@[simp] theorem State.withNotices_transport (s : State) (v : NoticeUnit) : (s.withNotices v).transport = s.transport := rfl
@[simp] theorem State.withNotices_rolls (s : State) (v : NoticeUnit) : (s.withNotices v).rolls = s.rolls := rfl
@[simp] theorem State.withNotices_labels (s : State) (v : NoticeUnit) : (s.withNotices v).labels = s.labels := rfl
@[simp] theorem State.withNotices_accounts (s : State) (v : NoticeUnit) : (s.withNotices v).accounts = s.accounts := rfl
@[simp] theorem State.withNotices_store (s : State) (v : NoticeUnit) : (s.withNotices v).store = s.store := rfl
@[simp] theorem State.withNotices_panel (s : State) (v : NoticeUnit) : (s.withNotices v).panel = s.panel := rfl
@[simp] theorem State.withNotices_pending (s : State) (v : NoticeUnit) : (s.withNotices v).pending = s.pending := rfl

/-! ## withOrders -/

@[simp] theorem State.withOrders_power (s : State) (v : OrderTable) : (s.withOrders v).power = s.power := rfl
@[simp] theorem State.withOrders_line (s : State) (v : OrderTable) : (s.withOrders v).line = s.line := rfl
@[simp] theorem State.withOrders_notices (s : State) (v : OrderTable) : (s.withOrders v).notices = s.notices := rfl
@[simp] theorem State.withOrders_orders (s : State) (v : OrderTable) : (s.withOrders v).orders = v := rfl
@[simp] theorem State.withOrders_metering (s : State) (v : OrderTable) : (s.withOrders v).metering = s.metering := rfl
@[simp] theorem State.withOrders_films (s : State) (v : OrderTable) : (s.withOrders v).films = s.films := rfl
@[simp] theorem State.withOrders_calibration (s : State) (v : OrderTable) : (s.withOrders v).calibration = s.calibration := rfl
@[simp] theorem State.withOrders_exposure (s : State) (v : OrderTable) : (s.withOrders v).exposure = s.exposure := rfl
@[simp] theorem State.withOrders_transport (s : State) (v : OrderTable) : (s.withOrders v).transport = s.transport := rfl
@[simp] theorem State.withOrders_rolls (s : State) (v : OrderTable) : (s.withOrders v).rolls = s.rolls := rfl
@[simp] theorem State.withOrders_labels (s : State) (v : OrderTable) : (s.withOrders v).labels = s.labels := rfl
@[simp] theorem State.withOrders_accounts (s : State) (v : OrderTable) : (s.withOrders v).accounts = s.accounts := rfl
@[simp] theorem State.withOrders_store (s : State) (v : OrderTable) : (s.withOrders v).store = s.store := rfl
@[simp] theorem State.withOrders_panel (s : State) (v : OrderTable) : (s.withOrders v).panel = s.panel := rfl
@[simp] theorem State.withOrders_pending (s : State) (v : OrderTable) : (s.withOrders v).pending = s.pending := rfl

/-! ## withMetering -/

@[simp] theorem State.withMetering_power (s : State) (v : MeteringUnit) : (s.withMetering v).power = s.power := rfl
@[simp] theorem State.withMetering_line (s : State) (v : MeteringUnit) : (s.withMetering v).line = s.line := rfl
@[simp] theorem State.withMetering_notices (s : State) (v : MeteringUnit) : (s.withMetering v).notices = s.notices := rfl
@[simp] theorem State.withMetering_orders (s : State) (v : MeteringUnit) : (s.withMetering v).orders = s.orders := rfl
@[simp] theorem State.withMetering_metering (s : State) (v : MeteringUnit) : (s.withMetering v).metering = v := rfl
@[simp] theorem State.withMetering_films (s : State) (v : MeteringUnit) : (s.withMetering v).films = s.films := rfl
@[simp] theorem State.withMetering_calibration (s : State) (v : MeteringUnit) : (s.withMetering v).calibration = s.calibration := rfl
@[simp] theorem State.withMetering_exposure (s : State) (v : MeteringUnit) : (s.withMetering v).exposure = s.exposure := rfl
@[simp] theorem State.withMetering_transport (s : State) (v : MeteringUnit) : (s.withMetering v).transport = s.transport := rfl
@[simp] theorem State.withMetering_rolls (s : State) (v : MeteringUnit) : (s.withMetering v).rolls = s.rolls := rfl
@[simp] theorem State.withMetering_labels (s : State) (v : MeteringUnit) : (s.withMetering v).labels = s.labels := rfl
@[simp] theorem State.withMetering_accounts (s : State) (v : MeteringUnit) : (s.withMetering v).accounts = s.accounts := rfl
@[simp] theorem State.withMetering_store (s : State) (v : MeteringUnit) : (s.withMetering v).store = s.store := rfl
@[simp] theorem State.withMetering_panel (s : State) (v : MeteringUnit) : (s.withMetering v).panel = s.panel := rfl
@[simp] theorem State.withMetering_pending (s : State) (v : MeteringUnit) : (s.withMetering v).pending = s.pending := rfl

/-! ## withFilms -/

@[simp] theorem State.withFilms_power (s : State) (v : List (Option FilmKind)) : (s.withFilms v).power = s.power := rfl
@[simp] theorem State.withFilms_line (s : State) (v : List (Option FilmKind)) : (s.withFilms v).line = s.line := rfl
@[simp] theorem State.withFilms_notices (s : State) (v : List (Option FilmKind)) : (s.withFilms v).notices = s.notices := rfl
@[simp] theorem State.withFilms_orders (s : State) (v : List (Option FilmKind)) : (s.withFilms v).orders = s.orders := rfl
@[simp] theorem State.withFilms_metering (s : State) (v : List (Option FilmKind)) : (s.withFilms v).metering = s.metering := rfl
@[simp] theorem State.withFilms_films (s : State) (v : List (Option FilmKind)) : (s.withFilms v).films = v := rfl
@[simp] theorem State.withFilms_calibration (s : State) (v : List (Option FilmKind)) : (s.withFilms v).calibration = s.calibration := rfl
@[simp] theorem State.withFilms_exposure (s : State) (v : List (Option FilmKind)) : (s.withFilms v).exposure = s.exposure := rfl
@[simp] theorem State.withFilms_transport (s : State) (v : List (Option FilmKind)) : (s.withFilms v).transport = s.transport := rfl
@[simp] theorem State.withFilms_rolls (s : State) (v : List (Option FilmKind)) : (s.withFilms v).rolls = s.rolls := rfl
@[simp] theorem State.withFilms_labels (s : State) (v : List (Option FilmKind)) : (s.withFilms v).labels = s.labels := rfl
@[simp] theorem State.withFilms_accounts (s : State) (v : List (Option FilmKind)) : (s.withFilms v).accounts = s.accounts := rfl
@[simp] theorem State.withFilms_store (s : State) (v : List (Option FilmKind)) : (s.withFilms v).store = s.store := rfl
@[simp] theorem State.withFilms_panel (s : State) (v : List (Option FilmKind)) : (s.withFilms v).panel = s.panel := rfl
@[simp] theorem State.withFilms_pending (s : State) (v : List (Option FilmKind)) : (s.withFilms v).pending = s.pending := rfl

/-! ## withCalibration -/

@[simp] theorem State.withCalibration_power (s : State) (v : StandCalibration) : (s.withCalibration v).power = s.power := rfl
@[simp] theorem State.withCalibration_line (s : State) (v : StandCalibration) : (s.withCalibration v).line = s.line := rfl
@[simp] theorem State.withCalibration_notices (s : State) (v : StandCalibration) : (s.withCalibration v).notices = s.notices := rfl
@[simp] theorem State.withCalibration_orders (s : State) (v : StandCalibration) : (s.withCalibration v).orders = s.orders := rfl
@[simp] theorem State.withCalibration_metering (s : State) (v : StandCalibration) : (s.withCalibration v).metering = s.metering := rfl
@[simp] theorem State.withCalibration_films (s : State) (v : StandCalibration) : (s.withCalibration v).films = s.films := rfl
@[simp] theorem State.withCalibration_calibration (s : State) (v : StandCalibration) : (s.withCalibration v).calibration = v := rfl
@[simp] theorem State.withCalibration_exposure (s : State) (v : StandCalibration) : (s.withCalibration v).exposure = s.exposure := rfl
@[simp] theorem State.withCalibration_transport (s : State) (v : StandCalibration) : (s.withCalibration v).transport = s.transport := rfl
@[simp] theorem State.withCalibration_rolls (s : State) (v : StandCalibration) : (s.withCalibration v).rolls = s.rolls := rfl
@[simp] theorem State.withCalibration_labels (s : State) (v : StandCalibration) : (s.withCalibration v).labels = s.labels := rfl
@[simp] theorem State.withCalibration_accounts (s : State) (v : StandCalibration) : (s.withCalibration v).accounts = s.accounts := rfl
@[simp] theorem State.withCalibration_store (s : State) (v : StandCalibration) : (s.withCalibration v).store = s.store := rfl
@[simp] theorem State.withCalibration_panel (s : State) (v : StandCalibration) : (s.withCalibration v).panel = s.panel := rfl
@[simp] theorem State.withCalibration_pending (s : State) (v : StandCalibration) : (s.withCalibration v).pending = s.pending := rfl

/-! ## withExposure -/

@[simp] theorem State.withExposure_power (s : State) (v : ExposureUnit) : (s.withExposure v).power = s.power := rfl
@[simp] theorem State.withExposure_line (s : State) (v : ExposureUnit) : (s.withExposure v).line = s.line := rfl
@[simp] theorem State.withExposure_notices (s : State) (v : ExposureUnit) : (s.withExposure v).notices = s.notices := rfl
@[simp] theorem State.withExposure_orders (s : State) (v : ExposureUnit) : (s.withExposure v).orders = s.orders := rfl
@[simp] theorem State.withExposure_metering (s : State) (v : ExposureUnit) : (s.withExposure v).metering = s.metering := rfl
@[simp] theorem State.withExposure_films (s : State) (v : ExposureUnit) : (s.withExposure v).films = s.films := rfl
@[simp] theorem State.withExposure_calibration (s : State) (v : ExposureUnit) : (s.withExposure v).calibration = s.calibration := rfl
@[simp] theorem State.withExposure_exposure (s : State) (v : ExposureUnit) : (s.withExposure v).exposure = v := rfl
@[simp] theorem State.withExposure_transport (s : State) (v : ExposureUnit) : (s.withExposure v).transport = s.transport := rfl
@[simp] theorem State.withExposure_rolls (s : State) (v : ExposureUnit) : (s.withExposure v).rolls = s.rolls := rfl
@[simp] theorem State.withExposure_labels (s : State) (v : ExposureUnit) : (s.withExposure v).labels = s.labels := rfl
@[simp] theorem State.withExposure_accounts (s : State) (v : ExposureUnit) : (s.withExposure v).accounts = s.accounts := rfl
@[simp] theorem State.withExposure_store (s : State) (v : ExposureUnit) : (s.withExposure v).store = s.store := rfl
@[simp] theorem State.withExposure_panel (s : State) (v : ExposureUnit) : (s.withExposure v).panel = s.panel := rfl
@[simp] theorem State.withExposure_pending (s : State) (v : ExposureUnit) : (s.withExposure v).pending = s.pending := rfl

/-! ## withTransport -/

@[simp] theorem State.withTransport_power (s : State) (v : TransportUnit) : (s.withTransport v).power = s.power := rfl
@[simp] theorem State.withTransport_line (s : State) (v : TransportUnit) : (s.withTransport v).line = s.line := rfl
@[simp] theorem State.withTransport_notices (s : State) (v : TransportUnit) : (s.withTransport v).notices = s.notices := rfl
@[simp] theorem State.withTransport_orders (s : State) (v : TransportUnit) : (s.withTransport v).orders = s.orders := rfl
@[simp] theorem State.withTransport_metering (s : State) (v : TransportUnit) : (s.withTransport v).metering = s.metering := rfl
@[simp] theorem State.withTransport_films (s : State) (v : TransportUnit) : (s.withTransport v).films = s.films := rfl
@[simp] theorem State.withTransport_calibration (s : State) (v : TransportUnit) : (s.withTransport v).calibration = s.calibration := rfl
@[simp] theorem State.withTransport_exposure (s : State) (v : TransportUnit) : (s.withTransport v).exposure = s.exposure := rfl
@[simp] theorem State.withTransport_transport (s : State) (v : TransportUnit) : (s.withTransport v).transport = v := rfl
@[simp] theorem State.withTransport_rolls (s : State) (v : TransportUnit) : (s.withTransport v).rolls = s.rolls := rfl
@[simp] theorem State.withTransport_labels (s : State) (v : TransportUnit) : (s.withTransport v).labels = s.labels := rfl
@[simp] theorem State.withTransport_accounts (s : State) (v : TransportUnit) : (s.withTransport v).accounts = s.accounts := rfl
@[simp] theorem State.withTransport_store (s : State) (v : TransportUnit) : (s.withTransport v).store = s.store := rfl
@[simp] theorem State.withTransport_panel (s : State) (v : TransportUnit) : (s.withTransport v).panel = s.panel := rfl
@[simp] theorem State.withTransport_pending (s : State) (v : TransportUnit) : (s.withTransport v).pending = s.pending := rfl

/-! ## withRolls -/

@[simp] theorem State.withRolls_power (s : State) (v : List Roll) : (s.withRolls v).power = s.power := rfl
@[simp] theorem State.withRolls_line (s : State) (v : List Roll) : (s.withRolls v).line = s.line := rfl
@[simp] theorem State.withRolls_notices (s : State) (v : List Roll) : (s.withRolls v).notices = s.notices := rfl
@[simp] theorem State.withRolls_orders (s : State) (v : List Roll) : (s.withRolls v).orders = s.orders := rfl
@[simp] theorem State.withRolls_metering (s : State) (v : List Roll) : (s.withRolls v).metering = s.metering := rfl
@[simp] theorem State.withRolls_films (s : State) (v : List Roll) : (s.withRolls v).films = s.films := rfl
@[simp] theorem State.withRolls_calibration (s : State) (v : List Roll) : (s.withRolls v).calibration = s.calibration := rfl
@[simp] theorem State.withRolls_exposure (s : State) (v : List Roll) : (s.withRolls v).exposure = s.exposure := rfl
@[simp] theorem State.withRolls_transport (s : State) (v : List Roll) : (s.withRolls v).transport = s.transport := rfl
@[simp] theorem State.withRolls_rolls (s : State) (v : List Roll) : (s.withRolls v).rolls = v := rfl
@[simp] theorem State.withRolls_labels (s : State) (v : List Roll) : (s.withRolls v).labels = s.labels := rfl
@[simp] theorem State.withRolls_accounts (s : State) (v : List Roll) : (s.withRolls v).accounts = s.accounts := rfl
@[simp] theorem State.withRolls_store (s : State) (v : List Roll) : (s.withRolls v).store = s.store := rfl
@[simp] theorem State.withRolls_panel (s : State) (v : List Roll) : (s.withRolls v).panel = s.panel := rfl
@[simp] theorem State.withRolls_pending (s : State) (v : List Roll) : (s.withRolls v).pending = s.pending := rfl

/-! ## withLabels -/

@[simp] theorem State.withLabels_power (s : State) (v : LabelUnit) : (s.withLabels v).power = s.power := rfl
@[simp] theorem State.withLabels_line (s : State) (v : LabelUnit) : (s.withLabels v).line = s.line := rfl
@[simp] theorem State.withLabels_notices (s : State) (v : LabelUnit) : (s.withLabels v).notices = s.notices := rfl
@[simp] theorem State.withLabels_orders (s : State) (v : LabelUnit) : (s.withLabels v).orders = s.orders := rfl
@[simp] theorem State.withLabels_metering (s : State) (v : LabelUnit) : (s.withLabels v).metering = s.metering := rfl
@[simp] theorem State.withLabels_films (s : State) (v : LabelUnit) : (s.withLabels v).films = s.films := rfl
@[simp] theorem State.withLabels_calibration (s : State) (v : LabelUnit) : (s.withLabels v).calibration = s.calibration := rfl
@[simp] theorem State.withLabels_exposure (s : State) (v : LabelUnit) : (s.withLabels v).exposure = s.exposure := rfl
@[simp] theorem State.withLabels_transport (s : State) (v : LabelUnit) : (s.withLabels v).transport = s.transport := rfl
@[simp] theorem State.withLabels_rolls (s : State) (v : LabelUnit) : (s.withLabels v).rolls = s.rolls := rfl
@[simp] theorem State.withLabels_labels (s : State) (v : LabelUnit) : (s.withLabels v).labels = v := rfl
@[simp] theorem State.withLabels_accounts (s : State) (v : LabelUnit) : (s.withLabels v).accounts = s.accounts := rfl
@[simp] theorem State.withLabels_store (s : State) (v : LabelUnit) : (s.withLabels v).store = s.store := rfl
@[simp] theorem State.withLabels_panel (s : State) (v : LabelUnit) : (s.withLabels v).panel = s.panel := rfl
@[simp] theorem State.withLabels_pending (s : State) (v : LabelUnit) : (s.withLabels v).pending = s.pending := rfl

/-! ## withAccounts -/

@[simp] theorem State.withAccounts_power (s : State) (v : AccountTable) : (s.withAccounts v).power = s.power := rfl
@[simp] theorem State.withAccounts_line (s : State) (v : AccountTable) : (s.withAccounts v).line = s.line := rfl
@[simp] theorem State.withAccounts_notices (s : State) (v : AccountTable) : (s.withAccounts v).notices = s.notices := rfl
@[simp] theorem State.withAccounts_orders (s : State) (v : AccountTable) : (s.withAccounts v).orders = s.orders := rfl
@[simp] theorem State.withAccounts_metering (s : State) (v : AccountTable) : (s.withAccounts v).metering = s.metering := rfl
@[simp] theorem State.withAccounts_films (s : State) (v : AccountTable) : (s.withAccounts v).films = s.films := rfl
@[simp] theorem State.withAccounts_calibration (s : State) (v : AccountTable) : (s.withAccounts v).calibration = s.calibration := rfl
@[simp] theorem State.withAccounts_exposure (s : State) (v : AccountTable) : (s.withAccounts v).exposure = s.exposure := rfl
@[simp] theorem State.withAccounts_transport (s : State) (v : AccountTable) : (s.withAccounts v).transport = s.transport := rfl
@[simp] theorem State.withAccounts_rolls (s : State) (v : AccountTable) : (s.withAccounts v).rolls = s.rolls := rfl
@[simp] theorem State.withAccounts_labels (s : State) (v : AccountTable) : (s.withAccounts v).labels = s.labels := rfl
@[simp] theorem State.withAccounts_accounts (s : State) (v : AccountTable) : (s.withAccounts v).accounts = v := rfl
@[simp] theorem State.withAccounts_store (s : State) (v : AccountTable) : (s.withAccounts v).store = s.store := rfl
@[simp] theorem State.withAccounts_panel (s : State) (v : AccountTable) : (s.withAccounts v).panel = s.panel := rfl
@[simp] theorem State.withAccounts_pending (s : State) (v : AccountTable) : (s.withAccounts v).pending = s.pending := rfl

/-! ## withStore -/

@[simp] theorem State.withStore_power (s : State) (v : SettingsStore) : (s.withStore v).power = s.power := rfl
@[simp] theorem State.withStore_line (s : State) (v : SettingsStore) : (s.withStore v).line = s.line := rfl
@[simp] theorem State.withStore_notices (s : State) (v : SettingsStore) : (s.withStore v).notices = s.notices := rfl
@[simp] theorem State.withStore_orders (s : State) (v : SettingsStore) : (s.withStore v).orders = s.orders := rfl
@[simp] theorem State.withStore_metering (s : State) (v : SettingsStore) : (s.withStore v).metering = s.metering := rfl
@[simp] theorem State.withStore_films (s : State) (v : SettingsStore) : (s.withStore v).films = s.films := rfl
@[simp] theorem State.withStore_calibration (s : State) (v : SettingsStore) : (s.withStore v).calibration = s.calibration := rfl
@[simp] theorem State.withStore_exposure (s : State) (v : SettingsStore) : (s.withStore v).exposure = s.exposure := rfl
@[simp] theorem State.withStore_transport (s : State) (v : SettingsStore) : (s.withStore v).transport = s.transport := rfl
@[simp] theorem State.withStore_rolls (s : State) (v : SettingsStore) : (s.withStore v).rolls = s.rolls := rfl
@[simp] theorem State.withStore_labels (s : State) (v : SettingsStore) : (s.withStore v).labels = s.labels := rfl
@[simp] theorem State.withStore_accounts (s : State) (v : SettingsStore) : (s.withStore v).accounts = s.accounts := rfl
@[simp] theorem State.withStore_store (s : State) (v : SettingsStore) : (s.withStore v).store = v := rfl
@[simp] theorem State.withStore_panel (s : State) (v : SettingsStore) : (s.withStore v).panel = s.panel := rfl
@[simp] theorem State.withStore_pending (s : State) (v : SettingsStore) : (s.withStore v).pending = s.pending := rfl

/-! ## withPanel -/

@[simp] theorem State.withPanel_power (s : State) (v : Panel) : (s.withPanel v).power = s.power := rfl
@[simp] theorem State.withPanel_line (s : State) (v : Panel) : (s.withPanel v).line = s.line := rfl
@[simp] theorem State.withPanel_notices (s : State) (v : Panel) : (s.withPanel v).notices = s.notices := rfl
@[simp] theorem State.withPanel_orders (s : State) (v : Panel) : (s.withPanel v).orders = s.orders := rfl
@[simp] theorem State.withPanel_metering (s : State) (v : Panel) : (s.withPanel v).metering = s.metering := rfl
@[simp] theorem State.withPanel_films (s : State) (v : Panel) : (s.withPanel v).films = s.films := rfl
@[simp] theorem State.withPanel_calibration (s : State) (v : Panel) : (s.withPanel v).calibration = s.calibration := rfl
@[simp] theorem State.withPanel_exposure (s : State) (v : Panel) : (s.withPanel v).exposure = s.exposure := rfl
@[simp] theorem State.withPanel_transport (s : State) (v : Panel) : (s.withPanel v).transport = s.transport := rfl
@[simp] theorem State.withPanel_rolls (s : State) (v : Panel) : (s.withPanel v).rolls = s.rolls := rfl
@[simp] theorem State.withPanel_labels (s : State) (v : Panel) : (s.withPanel v).labels = s.labels := rfl
@[simp] theorem State.withPanel_accounts (s : State) (v : Panel) : (s.withPanel v).accounts = s.accounts := rfl
@[simp] theorem State.withPanel_store (s : State) (v : Panel) : (s.withPanel v).store = s.store := rfl
@[simp] theorem State.withPanel_panel (s : State) (v : Panel) : (s.withPanel v).panel = v := rfl
@[simp] theorem State.withPanel_pending (s : State) (v : Panel) : (s.withPanel v).pending = s.pending := rfl

/-! ## withPending -/

@[simp] theorem State.withPending_power (s : State) (v : List Instr) : (s.withPending v).power = s.power := rfl
@[simp] theorem State.withPending_line (s : State) (v : List Instr) : (s.withPending v).line = s.line := rfl
@[simp] theorem State.withPending_notices (s : State) (v : List Instr) : (s.withPending v).notices = s.notices := rfl
@[simp] theorem State.withPending_orders (s : State) (v : List Instr) : (s.withPending v).orders = s.orders := rfl
@[simp] theorem State.withPending_metering (s : State) (v : List Instr) : (s.withPending v).metering = s.metering := rfl
@[simp] theorem State.withPending_films (s : State) (v : List Instr) : (s.withPending v).films = s.films := rfl
@[simp] theorem State.withPending_calibration (s : State) (v : List Instr) : (s.withPending v).calibration = s.calibration := rfl
@[simp] theorem State.withPending_exposure (s : State) (v : List Instr) : (s.withPending v).exposure = s.exposure := rfl
@[simp] theorem State.withPending_transport (s : State) (v : List Instr) : (s.withPending v).transport = s.transport := rfl
@[simp] theorem State.withPending_rolls (s : State) (v : List Instr) : (s.withPending v).rolls = s.rolls := rfl
@[simp] theorem State.withPending_labels (s : State) (v : List Instr) : (s.withPending v).labels = s.labels := rfl
@[simp] theorem State.withPending_accounts (s : State) (v : List Instr) : (s.withPending v).accounts = s.accounts := rfl
@[simp] theorem State.withPending_store (s : State) (v : List Instr) : (s.withPending v).store = s.store := rfl
@[simp] theorem State.withPending_panel (s : State) (v : List Instr) : (s.withPending v).panel = s.panel := rfl
@[simp] theorem State.withPending_pending (s : State) (v : List Instr) : (s.withPending v).pending = v := rfl

end Sys2Proof.Machine
end

