-- ==== Sys2Proof/Laws/Frames.lean ====
section
/-! SUPPORT. The frame of each shared operation: the blocks it leaves as they are. One lemma per operation says it of all
of them, and each part of it is a simp lemma. -/

namespace Sys2Proof.Machine

/-! ## raise: Raising a notice changes the Notice Unit alone (R189). -/

@[simp] theorem State.raise_power (s : State) (n : Notice) : (s.raise n).power = s.power := rfl
@[simp] theorem State.raise_line (s : State) (n : Notice) : (s.raise n).line = s.line := rfl
@[simp] theorem State.raise_orders (s : State) (n : Notice) : (s.raise n).orders = s.orders := rfl
@[simp] theorem State.raise_metering (s : State) (n : Notice) : (s.raise n).metering = s.metering := rfl
@[simp] theorem State.raise_films (s : State) (n : Notice) : (s.raise n).films = s.films := rfl
@[simp] theorem State.raise_calibration (s : State) (n : Notice) : (s.raise n).calibration = s.calibration := rfl
@[simp] theorem State.raise_exposure (s : State) (n : Notice) : (s.raise n).exposure = s.exposure := rfl
@[simp] theorem State.raise_transport (s : State) (n : Notice) : (s.raise n).transport = s.transport := rfl
@[simp] theorem State.raise_rolls (s : State) (n : Notice) : (s.raise n).rolls = s.rolls := rfl
@[simp] theorem State.raise_labels (s : State) (n : Notice) : (s.raise n).labels = s.labels := rfl
@[simp] theorem State.raise_accounts (s : State) (n : Notice) : (s.raise n).accounts = s.accounts := rfl
@[simp] theorem State.raise_store (s : State) (n : Notice) : (s.raise n).store = s.store := rfl
@[simp] theorem State.raise_panel (s : State) (n : Notice) : (s.raise n).panel = s.panel := rfl
@[simp] theorem State.raise_pending (s : State) (n : Notice) : (s.raise n).pending = s.pending := rfl

/-! ## startWrite: The write engine changes the store alone (R166). -/

theorem State.startWrite_frame (s : State) :
    (s.startWrite).power = s.power ∧
    (s.startWrite).line = s.line ∧
    (s.startWrite).notices = s.notices ∧
    (s.startWrite).orders = s.orders ∧
    (s.startWrite).metering = s.metering ∧
    (s.startWrite).films = s.films ∧
    (s.startWrite).calibration = s.calibration ∧
    (s.startWrite).exposure = s.exposure ∧
    (s.startWrite).transport = s.transport ∧
    (s.startWrite).rolls = s.rolls ∧
    (s.startWrite).labels = s.labels ∧
    (s.startWrite).accounts = s.accounts ∧
    (s.startWrite).panel = s.panel ∧
    (s.startWrite).pending = s.pending := by
  unfold State.startWrite; split <;> simp

@[simp] theorem State.startWrite_power (s : State) : (s.startWrite).power = s.power := (State.startWrite_frame s).1
@[simp] theorem State.startWrite_line (s : State) : (s.startWrite).line = s.line := (State.startWrite_frame s).2.1
@[simp] theorem State.startWrite_notices (s : State) : (s.startWrite).notices = s.notices :=
  (State.startWrite_frame s).2.2.1
@[simp] theorem State.startWrite_orders (s : State) : (s.startWrite).orders = s.orders :=
  (State.startWrite_frame s).2.2.2.1
@[simp] theorem State.startWrite_metering (s : State) : (s.startWrite).metering = s.metering :=
  (State.startWrite_frame s).2.2.2.2.1
@[simp] theorem State.startWrite_films (s : State) : (s.startWrite).films = s.films :=
  (State.startWrite_frame s).2.2.2.2.2.1
@[simp] theorem State.startWrite_calibration (s : State) : (s.startWrite).calibration = s.calibration :=
  (State.startWrite_frame s).2.2.2.2.2.2.1
@[simp] theorem State.startWrite_exposure (s : State) : (s.startWrite).exposure = s.exposure :=
  (State.startWrite_frame s).2.2.2.2.2.2.2.1
@[simp] theorem State.startWrite_transport (s : State) : (s.startWrite).transport = s.transport :=
  (State.startWrite_frame s).2.2.2.2.2.2.2.2.1
@[simp] theorem State.startWrite_rolls (s : State) : (s.startWrite).rolls = s.rolls :=
  (State.startWrite_frame s).2.2.2.2.2.2.2.2.2.1
@[simp] theorem State.startWrite_labels (s : State) : (s.startWrite).labels = s.labels :=
  (State.startWrite_frame s).2.2.2.2.2.2.2.2.2.2.1
@[simp] theorem State.startWrite_accounts (s : State) : (s.startWrite).accounts = s.accounts :=
  (State.startWrite_frame s).2.2.2.2.2.2.2.2.2.2.2.1
@[simp] theorem State.startWrite_panel (s : State) : (s.startWrite).panel = s.panel :=
  (State.startWrite_frame s).2.2.2.2.2.2.2.2.2.2.2.2.1
@[simp] theorem State.startWrite_pending (s : State) : (s.startWrite).pending = s.pending :=
  (State.startWrite_frame s).2.2.2.2.2.2.2.2.2.2.2.2.2

/-! ## markDirty: A dirty mark changes the store alone (R165). -/

theorem State.markDirty_frame (s : State) (p : Nat) :
    (s.markDirty p).power = s.power ∧
    (s.markDirty p).line = s.line ∧
    (s.markDirty p).notices = s.notices ∧
    (s.markDirty p).orders = s.orders ∧
    (s.markDirty p).metering = s.metering ∧
    (s.markDirty p).films = s.films ∧
    (s.markDirty p).calibration = s.calibration ∧
    (s.markDirty p).exposure = s.exposure ∧
    (s.markDirty p).transport = s.transport ∧
    (s.markDirty p).rolls = s.rolls ∧
    (s.markDirty p).labels = s.labels ∧
    (s.markDirty p).accounts = s.accounts ∧
    (s.markDirty p).panel = s.panel ∧
    (s.markDirty p).pending = s.pending := by
  simp [State.markDirty]

@[simp] theorem State.markDirty_power (s : State) (p : Nat) : (s.markDirty p).power = s.power :=
  (State.markDirty_frame s p).1
@[simp] theorem State.markDirty_line (s : State) (p : Nat) : (s.markDirty p).line = s.line :=
  (State.markDirty_frame s p).2.1
@[simp] theorem State.markDirty_notices (s : State) (p : Nat) : (s.markDirty p).notices = s.notices :=
  (State.markDirty_frame s p).2.2.1
@[simp] theorem State.markDirty_orders (s : State) (p : Nat) : (s.markDirty p).orders = s.orders :=
  (State.markDirty_frame s p).2.2.2.1
@[simp] theorem State.markDirty_metering (s : State) (p : Nat) : (s.markDirty p).metering = s.metering :=
  (State.markDirty_frame s p).2.2.2.2.1
@[simp] theorem State.markDirty_films (s : State) (p : Nat) : (s.markDirty p).films = s.films :=
  (State.markDirty_frame s p).2.2.2.2.2.1
@[simp] theorem State.markDirty_calibration (s : State) (p : Nat) : (s.markDirty p).calibration = s.calibration :=
  (State.markDirty_frame s p).2.2.2.2.2.2.1
@[simp] theorem State.markDirty_exposure (s : State) (p : Nat) : (s.markDirty p).exposure = s.exposure :=
  (State.markDirty_frame s p).2.2.2.2.2.2.2.1
@[simp] theorem State.markDirty_transport (s : State) (p : Nat) : (s.markDirty p).transport = s.transport :=
  (State.markDirty_frame s p).2.2.2.2.2.2.2.2.1
@[simp] theorem State.markDirty_rolls (s : State) (p : Nat) : (s.markDirty p).rolls = s.rolls :=
  (State.markDirty_frame s p).2.2.2.2.2.2.2.2.2.1
@[simp] theorem State.markDirty_labels (s : State) (p : Nat) : (s.markDirty p).labels = s.labels :=
  (State.markDirty_frame s p).2.2.2.2.2.2.2.2.2.2.1
@[simp] theorem State.markDirty_accounts (s : State) (p : Nat) : (s.markDirty p).accounts = s.accounts :=
  (State.markDirty_frame s p).2.2.2.2.2.2.2.2.2.2.2.1
@[simp] theorem State.markDirty_panel (s : State) (p : Nat) : (s.markDirty p).panel = s.panel :=
  (State.markDirty_frame s p).2.2.2.2.2.2.2.2.2.2.2.2.1
@[simp] theorem State.markDirty_pending (s : State) (p : Nat) : (s.markDirty p).pending = s.pending :=
  (State.markDirty_frame s p).2.2.2.2.2.2.2.2.2.2.2.2.2

/-! ## mapAccount: A change of an account record. -/

@[simp] theorem State.mapAccount_power (s : State) (n : Nat) (f : Account → Account) : (s.mapAccount n f).power = s.power := rfl
@[simp] theorem State.mapAccount_line (s : State) (n : Nat) (f : Account → Account) : (s.mapAccount n f).line = s.line := rfl
@[simp] theorem State.mapAccount_notices (s : State) (n : Nat) (f : Account → Account) : (s.mapAccount n f).notices = s.notices := rfl
@[simp] theorem State.mapAccount_orders (s : State) (n : Nat) (f : Account → Account) : (s.mapAccount n f).orders = s.orders := rfl
@[simp] theorem State.mapAccount_metering (s : State) (n : Nat) (f : Account → Account) : (s.mapAccount n f).metering = s.metering := rfl
@[simp] theorem State.mapAccount_films (s : State) (n : Nat) (f : Account → Account) : (s.mapAccount n f).films = s.films := rfl
@[simp] theorem State.mapAccount_calibration (s : State) (n : Nat) (f : Account → Account) : (s.mapAccount n f).calibration = s.calibration := rfl
@[simp] theorem State.mapAccount_exposure (s : State) (n : Nat) (f : Account → Account) : (s.mapAccount n f).exposure = s.exposure := rfl
@[simp] theorem State.mapAccount_transport (s : State) (n : Nat) (f : Account → Account) : (s.mapAccount n f).transport = s.transport := rfl
@[simp] theorem State.mapAccount_rolls (s : State) (n : Nat) (f : Account → Account) : (s.mapAccount n f).rolls = s.rolls := rfl
@[simp] theorem State.mapAccount_labels (s : State) (n : Nat) (f : Account → Account) : (s.mapAccount n f).labels = s.labels := rfl
@[simp] theorem State.mapAccount_store (s : State) (n : Nat) (f : Account → Account) : (s.mapAccount n f).store = s.store := rfl
@[simp] theorem State.mapAccount_panel (s : State) (n : Nat) (f : Account → Account) : (s.mapAccount n f).panel = s.panel := rfl
@[simp] theorem State.mapAccount_pending (s : State) (n : Nat) (f : Account → Account) : (s.mapAccount n f).pending = s.pending := rfl

/-! ## markAccount: An account's place becomes dirty. -/

theorem State.markAccount_frame (s : State) (n : Nat) :
    (s.markAccount n).power = s.power ∧
    (s.markAccount n).line = s.line ∧
    (s.markAccount n).notices = s.notices ∧
    (s.markAccount n).orders = s.orders ∧
    (s.markAccount n).metering = s.metering ∧
    (s.markAccount n).films = s.films ∧
    (s.markAccount n).calibration = s.calibration ∧
    (s.markAccount n).exposure = s.exposure ∧
    (s.markAccount n).transport = s.transport ∧
    (s.markAccount n).rolls = s.rolls ∧
    (s.markAccount n).labels = s.labels ∧
    (s.markAccount n).accounts = s.accounts ∧
    (s.markAccount n).panel = s.panel ∧
    (s.markAccount n).pending = s.pending := by
  unfold State.markAccount; split <;> simp

@[simp] theorem State.markAccount_power (s : State) (n : Nat) : (s.markAccount n).power = s.power :=
  (State.markAccount_frame s n).1
@[simp] theorem State.markAccount_line (s : State) (n : Nat) : (s.markAccount n).line = s.line :=
  (State.markAccount_frame s n).2.1
@[simp] theorem State.markAccount_notices (s : State) (n : Nat) : (s.markAccount n).notices = s.notices :=
  (State.markAccount_frame s n).2.2.1
@[simp] theorem State.markAccount_orders (s : State) (n : Nat) : (s.markAccount n).orders = s.orders :=
  (State.markAccount_frame s n).2.2.2.1
@[simp] theorem State.markAccount_metering (s : State) (n : Nat) : (s.markAccount n).metering = s.metering :=
  (State.markAccount_frame s n).2.2.2.2.1
@[simp] theorem State.markAccount_films (s : State) (n : Nat) : (s.markAccount n).films = s.films :=
  (State.markAccount_frame s n).2.2.2.2.2.1
@[simp] theorem State.markAccount_calibration (s : State) (n : Nat) : (s.markAccount n).calibration = s.calibration :=
  (State.markAccount_frame s n).2.2.2.2.2.2.1
@[simp] theorem State.markAccount_exposure (s : State) (n : Nat) : (s.markAccount n).exposure = s.exposure :=
  (State.markAccount_frame s n).2.2.2.2.2.2.2.1
@[simp] theorem State.markAccount_transport (s : State) (n : Nat) : (s.markAccount n).transport = s.transport :=
  (State.markAccount_frame s n).2.2.2.2.2.2.2.2.1
@[simp] theorem State.markAccount_rolls (s : State) (n : Nat) : (s.markAccount n).rolls = s.rolls :=
  (State.markAccount_frame s n).2.2.2.2.2.2.2.2.2.1
@[simp] theorem State.markAccount_labels (s : State) (n : Nat) : (s.markAccount n).labels = s.labels :=
  (State.markAccount_frame s n).2.2.2.2.2.2.2.2.2.2.1
@[simp] theorem State.markAccount_accounts (s : State) (n : Nat) : (s.markAccount n).accounts = s.accounts :=
  (State.markAccount_frame s n).2.2.2.2.2.2.2.2.2.2.2.1
@[simp] theorem State.markAccount_panel (s : State) (n : Nat) : (s.markAccount n).panel = s.panel :=
  (State.markAccount_frame s n).2.2.2.2.2.2.2.2.2.2.2.2.1
@[simp] theorem State.markAccount_pending (s : State) (n : Nat) : (s.markAccount n).pending = s.pending :=
  (State.markAccount_frame s n).2.2.2.2.2.2.2.2.2.2.2.2.2

/-! ## noteLow: ACCOUNT_LOW alone can be raised (R152). -/

theorem State.noteLow_frame (s : State) (b a : Bool) :
    (s.noteLow b a).power = s.power ∧
    (s.noteLow b a).line = s.line ∧
    (s.noteLow b a).orders = s.orders ∧
    (s.noteLow b a).metering = s.metering ∧
    (s.noteLow b a).films = s.films ∧
    (s.noteLow b a).calibration = s.calibration ∧
    (s.noteLow b a).exposure = s.exposure ∧
    (s.noteLow b a).transport = s.transport ∧
    (s.noteLow b a).rolls = s.rolls ∧
    (s.noteLow b a).labels = s.labels ∧
    (s.noteLow b a).accounts = s.accounts ∧
    (s.noteLow b a).store = s.store ∧
    (s.noteLow b a).panel = s.panel ∧
    (s.noteLow b a).pending = s.pending := by
  unfold State.noteLow; split <;> simp

@[simp] theorem State.noteLow_power (s : State) (b a : Bool) : (s.noteLow b a).power = s.power :=
  (State.noteLow_frame s b a).1
@[simp] theorem State.noteLow_line (s : State) (b a : Bool) : (s.noteLow b a).line = s.line :=
  (State.noteLow_frame s b a).2.1
@[simp] theorem State.noteLow_orders (s : State) (b a : Bool) : (s.noteLow b a).orders = s.orders :=
  (State.noteLow_frame s b a).2.2.1
@[simp] theorem State.noteLow_metering (s : State) (b a : Bool) : (s.noteLow b a).metering = s.metering :=
  (State.noteLow_frame s b a).2.2.2.1
@[simp] theorem State.noteLow_films (s : State) (b a : Bool) : (s.noteLow b a).films = s.films :=
  (State.noteLow_frame s b a).2.2.2.2.1
@[simp] theorem State.noteLow_calibration (s : State) (b a : Bool) : (s.noteLow b a).calibration = s.calibration :=
  (State.noteLow_frame s b a).2.2.2.2.2.1
@[simp] theorem State.noteLow_exposure (s : State) (b a : Bool) : (s.noteLow b a).exposure = s.exposure :=
  (State.noteLow_frame s b a).2.2.2.2.2.2.1
@[simp] theorem State.noteLow_transport (s : State) (b a : Bool) : (s.noteLow b a).transport = s.transport :=
  (State.noteLow_frame s b a).2.2.2.2.2.2.2.1
@[simp] theorem State.noteLow_rolls (s : State) (b a : Bool) : (s.noteLow b a).rolls = s.rolls :=
  (State.noteLow_frame s b a).2.2.2.2.2.2.2.2.1
@[simp] theorem State.noteLow_labels (s : State) (b a : Bool) : (s.noteLow b a).labels = s.labels :=
  (State.noteLow_frame s b a).2.2.2.2.2.2.2.2.2.1
@[simp] theorem State.noteLow_accounts (s : State) (b a : Bool) : (s.noteLow b a).accounts = s.accounts :=
  (State.noteLow_frame s b a).2.2.2.2.2.2.2.2.2.2.1
@[simp] theorem State.noteLow_store (s : State) (b a : Bool) : (s.noteLow b a).store = s.store :=
  (State.noteLow_frame s b a).2.2.2.2.2.2.2.2.2.2.2.1
@[simp] theorem State.noteLow_panel (s : State) (b a : Bool) : (s.noteLow b a).panel = s.panel :=
  (State.noteLow_frame s b a).2.2.2.2.2.2.2.2.2.2.2.2.1
@[simp] theorem State.noteLow_pending (s : State) (b a : Bool) : (s.noteLow b a).pending = s.pending :=
  (State.noteLow_frame s b a).2.2.2.2.2.2.2.2.2.2.2.2.2

/-! ## changeAccount: A change of amounts (R146, R152). -/

theorem State.changeAccount_frame (s : State) (n : Nat) (f : Account → Account) :
    (s.changeAccount n f).power = s.power ∧
    (s.changeAccount n f).line = s.line ∧
    (s.changeAccount n f).orders = s.orders ∧
    (s.changeAccount n f).metering = s.metering ∧
    (s.changeAccount n f).films = s.films ∧
    (s.changeAccount n f).calibration = s.calibration ∧
    (s.changeAccount n f).exposure = s.exposure ∧
    (s.changeAccount n f).transport = s.transport ∧
    (s.changeAccount n f).rolls = s.rolls ∧
    (s.changeAccount n f).labels = s.labels ∧
    (s.changeAccount n f).panel = s.panel ∧
    (s.changeAccount n f).pending = s.pending := by
  unfold State.changeAccount; split
  · simp
  · split <;> simp

@[simp] theorem State.changeAccount_power (s : State) (n : Nat) (f : Account → Account) : (s.changeAccount n f).power = s.power :=
  (State.changeAccount_frame s n f).1
@[simp] theorem State.changeAccount_line (s : State) (n : Nat) (f : Account → Account) : (s.changeAccount n f).line = s.line :=
  (State.changeAccount_frame s n f).2.1
@[simp] theorem State.changeAccount_orders (s : State) (n : Nat) (f : Account → Account) : (s.changeAccount n f).orders = s.orders :=
  (State.changeAccount_frame s n f).2.2.1
@[simp] theorem State.changeAccount_metering (s : State) (n : Nat) (f : Account → Account) : (s.changeAccount n f).metering = s.metering :=
  (State.changeAccount_frame s n f).2.2.2.1
@[simp] theorem State.changeAccount_films (s : State) (n : Nat) (f : Account → Account) : (s.changeAccount n f).films = s.films :=
  (State.changeAccount_frame s n f).2.2.2.2.1
@[simp] theorem State.changeAccount_calibration (s : State) (n : Nat) (f : Account → Account) : (s.changeAccount n f).calibration = s.calibration :=
  (State.changeAccount_frame s n f).2.2.2.2.2.1
@[simp] theorem State.changeAccount_exposure (s : State) (n : Nat) (f : Account → Account) : (s.changeAccount n f).exposure = s.exposure :=
  (State.changeAccount_frame s n f).2.2.2.2.2.2.1
@[simp] theorem State.changeAccount_transport (s : State) (n : Nat) (f : Account → Account) : (s.changeAccount n f).transport = s.transport :=
  (State.changeAccount_frame s n f).2.2.2.2.2.2.2.1
@[simp] theorem State.changeAccount_rolls (s : State) (n : Nat) (f : Account → Account) : (s.changeAccount n f).rolls = s.rolls :=
  (State.changeAccount_frame s n f).2.2.2.2.2.2.2.2.1
@[simp] theorem State.changeAccount_labels (s : State) (n : Nat) (f : Account → Account) : (s.changeAccount n f).labels = s.labels :=
  (State.changeAccount_frame s n f).2.2.2.2.2.2.2.2.2.1
@[simp] theorem State.changeAccount_panel (s : State) (n : Nat) (f : Account → Account) : (s.changeAccount n f).panel = s.panel :=
  (State.changeAccount_frame s n f).2.2.2.2.2.2.2.2.2.2.1
@[simp] theorem State.changeAccount_pending (s : State) (n : Nat) (f : Account → Account) : (s.changeAccount n f).pending = s.pending :=
  (State.changeAccount_frame s n f).2.2.2.2.2.2.2.2.2.2.2

/-! ## mapOrder: A change of an order record. -/

@[simp] theorem State.mapOrder_power (s : State) (i : Nat) (f : Order → Order) : (s.mapOrder i f).power = s.power := rfl
@[simp] theorem State.mapOrder_line (s : State) (i : Nat) (f : Order → Order) : (s.mapOrder i f).line = s.line := rfl
@[simp] theorem State.mapOrder_notices (s : State) (i : Nat) (f : Order → Order) : (s.mapOrder i f).notices = s.notices := rfl
@[simp] theorem State.mapOrder_metering (s : State) (i : Nat) (f : Order → Order) : (s.mapOrder i f).metering = s.metering := rfl
@[simp] theorem State.mapOrder_films (s : State) (i : Nat) (f : Order → Order) : (s.mapOrder i f).films = s.films := rfl
@[simp] theorem State.mapOrder_calibration (s : State) (i : Nat) (f : Order → Order) : (s.mapOrder i f).calibration = s.calibration := rfl
@[simp] theorem State.mapOrder_exposure (s : State) (i : Nat) (f : Order → Order) : (s.mapOrder i f).exposure = s.exposure := rfl
@[simp] theorem State.mapOrder_transport (s : State) (i : Nat) (f : Order → Order) : (s.mapOrder i f).transport = s.transport := rfl
@[simp] theorem State.mapOrder_rolls (s : State) (i : Nat) (f : Order → Order) : (s.mapOrder i f).rolls = s.rolls := rfl
@[simp] theorem State.mapOrder_labels (s : State) (i : Nat) (f : Order → Order) : (s.mapOrder i f).labels = s.labels := rfl
@[simp] theorem State.mapOrder_accounts (s : State) (i : Nat) (f : Order → Order) : (s.mapOrder i f).accounts = s.accounts := rfl
@[simp] theorem State.mapOrder_store (s : State) (i : Nat) (f : Order → Order) : (s.mapOrder i f).store = s.store := rfl
@[simp] theorem State.mapOrder_panel (s : State) (i : Nat) (f : Order → Order) : (s.mapOrder i f).panel = s.panel := rfl
@[simp] theorem State.mapOrder_pending (s : State) (i : Nat) (f : Order → Order) : (s.mapOrder i f).pending = s.pending := rfl

/-! ## moveHold: A posting or release (R146). -/

theorem State.moveHold_frame (s : State) (i : Nat) (h : HoldPart) (m : Nat) (b : Bool) :
    (s.moveHold i h m b).power = s.power ∧
    (s.moveHold i h m b).line = s.line ∧
    (s.moveHold i h m b).metering = s.metering ∧
    (s.moveHold i h m b).films = s.films ∧
    (s.moveHold i h m b).calibration = s.calibration ∧
    (s.moveHold i h m b).exposure = s.exposure ∧
    (s.moveHold i h m b).transport = s.transport ∧
    (s.moveHold i h m b).rolls = s.rolls ∧
    (s.moveHold i h m b).labels = s.labels ∧
    (s.moveHold i h m b).panel = s.panel ∧
    (s.moveHold i h m b).pending = s.pending := by
  unfold State.moveHold; split <;> simp

@[simp] theorem State.moveHold_power (s : State) (i : Nat) (h : HoldPart) (m : Nat) (b : Bool) : (s.moveHold i h m b).power = s.power :=
  (State.moveHold_frame s i h m b).1
@[simp] theorem State.moveHold_line (s : State) (i : Nat) (h : HoldPart) (m : Nat) (b : Bool) : (s.moveHold i h m b).line = s.line :=
  (State.moveHold_frame s i h m b).2.1
@[simp] theorem State.moveHold_metering (s : State) (i : Nat) (h : HoldPart) (m : Nat) (b : Bool) : (s.moveHold i h m b).metering = s.metering :=
  (State.moveHold_frame s i h m b).2.2.1
@[simp] theorem State.moveHold_films (s : State) (i : Nat) (h : HoldPart) (m : Nat) (b : Bool) : (s.moveHold i h m b).films = s.films :=
  (State.moveHold_frame s i h m b).2.2.2.1
@[simp] theorem State.moveHold_calibration (s : State) (i : Nat) (h : HoldPart) (m : Nat) (b : Bool) : (s.moveHold i h m b).calibration = s.calibration :=
  (State.moveHold_frame s i h m b).2.2.2.2.1
@[simp] theorem State.moveHold_exposure (s : State) (i : Nat) (h : HoldPart) (m : Nat) (b : Bool) : (s.moveHold i h m b).exposure = s.exposure :=
  (State.moveHold_frame s i h m b).2.2.2.2.2.1
@[simp] theorem State.moveHold_transport (s : State) (i : Nat) (h : HoldPart) (m : Nat) (b : Bool) : (s.moveHold i h m b).transport = s.transport :=
  (State.moveHold_frame s i h m b).2.2.2.2.2.2.1
@[simp] theorem State.moveHold_rolls (s : State) (i : Nat) (h : HoldPart) (m : Nat) (b : Bool) : (s.moveHold i h m b).rolls = s.rolls :=
  (State.moveHold_frame s i h m b).2.2.2.2.2.2.2.1
@[simp] theorem State.moveHold_labels (s : State) (i : Nat) (h : HoldPart) (m : Nat) (b : Bool) : (s.moveHold i h m b).labels = s.labels :=
  (State.moveHold_frame s i h m b).2.2.2.2.2.2.2.2.1
@[simp] theorem State.moveHold_panel (s : State) (i : Nat) (h : HoldPart) (m : Nat) (b : Bool) : (s.moveHold i h m b).panel = s.panel :=
  (State.moveHold_frame s i h m b).2.2.2.2.2.2.2.2.2.1
@[simp] theorem State.moveHold_pending (s : State) (i : Nat) (h : HoldPart) (m : Nat) (b : Bool) : (s.moveHold i h m b).pending = s.pending :=
  (State.moveHold_frame s i h m b).2.2.2.2.2.2.2.2.2.2

/-! ## post: A posting (R147). -/

theorem State.post_frame (s : State) (i : Nat) (h : HoldPart) (m : Nat) :
    (s.post i h m).power = s.power ∧
    (s.post i h m).line = s.line ∧
    (s.post i h m).metering = s.metering ∧
    (s.post i h m).films = s.films ∧
    (s.post i h m).calibration = s.calibration ∧
    (s.post i h m).exposure = s.exposure ∧
    (s.post i h m).transport = s.transport ∧
    (s.post i h m).rolls = s.rolls ∧
    (s.post i h m).labels = s.labels ∧
    (s.post i h m).panel = s.panel ∧
    (s.post i h m).pending = s.pending := by
  simp [State.post]

@[simp] theorem State.post_power (s : State) (i : Nat) (h : HoldPart) (m : Nat) : (s.post i h m).power = s.power :=
  (State.post_frame s i h m).1
@[simp] theorem State.post_line (s : State) (i : Nat) (h : HoldPart) (m : Nat) : (s.post i h m).line = s.line :=
  (State.post_frame s i h m).2.1
@[simp] theorem State.post_metering (s : State) (i : Nat) (h : HoldPart) (m : Nat) : (s.post i h m).metering = s.metering :=
  (State.post_frame s i h m).2.2.1
@[simp] theorem State.post_films (s : State) (i : Nat) (h : HoldPart) (m : Nat) : (s.post i h m).films = s.films :=
  (State.post_frame s i h m).2.2.2.1
@[simp] theorem State.post_calibration (s : State) (i : Nat) (h : HoldPart) (m : Nat) : (s.post i h m).calibration = s.calibration :=
  (State.post_frame s i h m).2.2.2.2.1
@[simp] theorem State.post_exposure (s : State) (i : Nat) (h : HoldPart) (m : Nat) : (s.post i h m).exposure = s.exposure :=
  (State.post_frame s i h m).2.2.2.2.2.1
@[simp] theorem State.post_transport (s : State) (i : Nat) (h : HoldPart) (m : Nat) : (s.post i h m).transport = s.transport :=
  (State.post_frame s i h m).2.2.2.2.2.2.1
@[simp] theorem State.post_rolls (s : State) (i : Nat) (h : HoldPart) (m : Nat) : (s.post i h m).rolls = s.rolls :=
  (State.post_frame s i h m).2.2.2.2.2.2.2.1
@[simp] theorem State.post_labels (s : State) (i : Nat) (h : HoldPart) (m : Nat) : (s.post i h m).labels = s.labels :=
  (State.post_frame s i h m).2.2.2.2.2.2.2.2.1
@[simp] theorem State.post_panel (s : State) (i : Nat) (h : HoldPart) (m : Nat) : (s.post i h m).panel = s.panel :=
  (State.post_frame s i h m).2.2.2.2.2.2.2.2.2.1
@[simp] theorem State.post_pending (s : State) (i : Nat) (h : HoldPart) (m : Nat) : (s.post i h m).pending = s.pending :=
  (State.post_frame s i h m).2.2.2.2.2.2.2.2.2.2

/-! ## release: A release (R148). -/

theorem State.release_frame (s : State) (i : Nat) (h : HoldPart) (m : Nat) :
    (s.release i h m).power = s.power ∧
    (s.release i h m).line = s.line ∧
    (s.release i h m).metering = s.metering ∧
    (s.release i h m).films = s.films ∧
    (s.release i h m).calibration = s.calibration ∧
    (s.release i h m).exposure = s.exposure ∧
    (s.release i h m).transport = s.transport ∧
    (s.release i h m).rolls = s.rolls ∧
    (s.release i h m).labels = s.labels ∧
    (s.release i h m).panel = s.panel ∧
    (s.release i h m).pending = s.pending := by
  simp [State.release]

@[simp] theorem State.release_power (s : State) (i : Nat) (h : HoldPart) (m : Nat) : (s.release i h m).power = s.power :=
  (State.release_frame s i h m).1
@[simp] theorem State.release_line (s : State) (i : Nat) (h : HoldPart) (m : Nat) : (s.release i h m).line = s.line :=
  (State.release_frame s i h m).2.1
@[simp] theorem State.release_metering (s : State) (i : Nat) (h : HoldPart) (m : Nat) : (s.release i h m).metering = s.metering :=
  (State.release_frame s i h m).2.2.1
@[simp] theorem State.release_films (s : State) (i : Nat) (h : HoldPart) (m : Nat) : (s.release i h m).films = s.films :=
  (State.release_frame s i h m).2.2.2.1
@[simp] theorem State.release_calibration (s : State) (i : Nat) (h : HoldPart) (m : Nat) : (s.release i h m).calibration = s.calibration :=
  (State.release_frame s i h m).2.2.2.2.1
@[simp] theorem State.release_exposure (s : State) (i : Nat) (h : HoldPart) (m : Nat) : (s.release i h m).exposure = s.exposure :=
  (State.release_frame s i h m).2.2.2.2.2.1
@[simp] theorem State.release_transport (s : State) (i : Nat) (h : HoldPart) (m : Nat) : (s.release i h m).transport = s.transport :=
  (State.release_frame s i h m).2.2.2.2.2.2.1
@[simp] theorem State.release_rolls (s : State) (i : Nat) (h : HoldPart) (m : Nat) : (s.release i h m).rolls = s.rolls :=
  (State.release_frame s i h m).2.2.2.2.2.2.2.1
@[simp] theorem State.release_labels (s : State) (i : Nat) (h : HoldPart) (m : Nat) : (s.release i h m).labels = s.labels :=
  (State.release_frame s i h m).2.2.2.2.2.2.2.2.1
@[simp] theorem State.release_panel (s : State) (i : Nat) (h : HoldPart) (m : Nat) : (s.release i h m).panel = s.panel :=
  (State.release_frame s i h m).2.2.2.2.2.2.2.2.2.1
@[simp] theorem State.release_pending (s : State) (i : Nat) (h : HoldPart) (m : Nat) : (s.release i h m).pending = s.pending :=
  (State.release_frame s i h m).2.2.2.2.2.2.2.2.2.2

/-! ## refund: A refund (R150). -/

theorem State.refund_frame (s : State) (n m : Nat) :
    (s.refund n m).power = s.power ∧
    (s.refund n m).line = s.line ∧
    (s.refund n m).orders = s.orders ∧
    (s.refund n m).metering = s.metering ∧
    (s.refund n m).films = s.films ∧
    (s.refund n m).calibration = s.calibration ∧
    (s.refund n m).exposure = s.exposure ∧
    (s.refund n m).transport = s.transport ∧
    (s.refund n m).rolls = s.rolls ∧
    (s.refund n m).labels = s.labels ∧
    (s.refund n m).panel = s.panel ∧
    (s.refund n m).pending = s.pending := by
  simp [State.refund]

@[simp] theorem State.refund_power (s : State) (n m : Nat) : (s.refund n m).power = s.power :=
  (State.refund_frame s n m).1
@[simp] theorem State.refund_line (s : State) (n m : Nat) : (s.refund n m).line = s.line :=
  (State.refund_frame s n m).2.1
@[simp] theorem State.refund_orders (s : State) (n m : Nat) : (s.refund n m).orders = s.orders :=
  (State.refund_frame s n m).2.2.1
@[simp] theorem State.refund_metering (s : State) (n m : Nat) : (s.refund n m).metering = s.metering :=
  (State.refund_frame s n m).2.2.2.1
@[simp] theorem State.refund_films (s : State) (n m : Nat) : (s.refund n m).films = s.films :=
  (State.refund_frame s n m).2.2.2.2.1
@[simp] theorem State.refund_calibration (s : State) (n m : Nat) : (s.refund n m).calibration = s.calibration :=
  (State.refund_frame s n m).2.2.2.2.2.1
@[simp] theorem State.refund_exposure (s : State) (n m : Nat) : (s.refund n m).exposure = s.exposure :=
  (State.refund_frame s n m).2.2.2.2.2.2.1
@[simp] theorem State.refund_transport (s : State) (n m : Nat) : (s.refund n m).transport = s.transport :=
  (State.refund_frame s n m).2.2.2.2.2.2.2.1
@[simp] theorem State.refund_rolls (s : State) (n m : Nat) : (s.refund n m).rolls = s.rolls :=
  (State.refund_frame s n m).2.2.2.2.2.2.2.2.1
@[simp] theorem State.refund_labels (s : State) (n m : Nat) : (s.refund n m).labels = s.labels :=
  (State.refund_frame s n m).2.2.2.2.2.2.2.2.2.1
@[simp] theorem State.refund_panel (s : State) (n m : Nat) : (s.refund n m).panel = s.panel :=
  (State.refund_frame s n m).2.2.2.2.2.2.2.2.2.2.1
@[simp] theorem State.refund_pending (s : State) (n m : Nat) : (s.refund n m).pending = s.pending :=
  (State.refund_frame s n m).2.2.2.2.2.2.2.2.2.2.2

/-! ## oweFewerLabels: Labels outstanding of one order falls. -/

@[simp] theorem State.oweFewerLabels_power (s : State) (i m : Nat) : (s.oweFewerLabels i m).power = s.power := rfl
@[simp] theorem State.oweFewerLabels_line (s : State) (i m : Nat) : (s.oweFewerLabels i m).line = s.line := rfl
@[simp] theorem State.oweFewerLabels_notices (s : State) (i m : Nat) : (s.oweFewerLabels i m).notices = s.notices := rfl
@[simp] theorem State.oweFewerLabels_metering (s : State) (i m : Nat) : (s.oweFewerLabels i m).metering = s.metering := rfl
@[simp] theorem State.oweFewerLabels_films (s : State) (i m : Nat) : (s.oweFewerLabels i m).films = s.films := rfl
@[simp] theorem State.oweFewerLabels_calibration (s : State) (i m : Nat) : (s.oweFewerLabels i m).calibration = s.calibration := rfl
@[simp] theorem State.oweFewerLabels_exposure (s : State) (i m : Nat) : (s.oweFewerLabels i m).exposure = s.exposure := rfl
@[simp] theorem State.oweFewerLabels_transport (s : State) (i m : Nat) : (s.oweFewerLabels i m).transport = s.transport := rfl
@[simp] theorem State.oweFewerLabels_rolls (s : State) (i m : Nat) : (s.oweFewerLabels i m).rolls = s.rolls := rfl
@[simp] theorem State.oweFewerLabels_labels (s : State) (i m : Nat) : (s.oweFewerLabels i m).labels = s.labels := rfl
@[simp] theorem State.oweFewerLabels_accounts (s : State) (i m : Nat) : (s.oweFewerLabels i m).accounts = s.accounts := rfl
@[simp] theorem State.oweFewerLabels_store (s : State) (i m : Nat) : (s.oweFewerLabels i m).store = s.store := rfl
@[simp] theorem State.oweFewerLabels_panel (s : State) (i m : Nat) : (s.oweFewerLabels i m).panel = s.panel := rfl
@[simp] theorem State.oweFewerLabels_pending (s : State) (i m : Nat) : (s.oweFewerLabels i m).pending = s.pending := rfl

/-! ## giveUpLabel: A rejected or fogged frame reaches its order (R110, R112). -/

theorem State.giveUpLabel_frame (s : State) (i : Nat) :
    (s.giveUpLabel i).power = s.power ∧
    (s.giveUpLabel i).line = s.line ∧
    (s.giveUpLabel i).metering = s.metering ∧
    (s.giveUpLabel i).films = s.films ∧
    (s.giveUpLabel i).calibration = s.calibration ∧
    (s.giveUpLabel i).exposure = s.exposure ∧
    (s.giveUpLabel i).transport = s.transport ∧
    (s.giveUpLabel i).rolls = s.rolls ∧
    (s.giveUpLabel i).labels = s.labels ∧
    (s.giveUpLabel i).panel = s.panel ∧
    (s.giveUpLabel i).pending = s.pending := by
  unfold State.giveUpLabel; split
  · simp
  · split <;> simp

@[simp] theorem State.giveUpLabel_power (s : State) (i : Nat) : (s.giveUpLabel i).power = s.power :=
  (State.giveUpLabel_frame s i).1
@[simp] theorem State.giveUpLabel_line (s : State) (i : Nat) : (s.giveUpLabel i).line = s.line :=
  (State.giveUpLabel_frame s i).2.1
@[simp] theorem State.giveUpLabel_metering (s : State) (i : Nat) : (s.giveUpLabel i).metering = s.metering :=
  (State.giveUpLabel_frame s i).2.2.1
@[simp] theorem State.giveUpLabel_films (s : State) (i : Nat) : (s.giveUpLabel i).films = s.films :=
  (State.giveUpLabel_frame s i).2.2.2.1
@[simp] theorem State.giveUpLabel_calibration (s : State) (i : Nat) : (s.giveUpLabel i).calibration = s.calibration :=
  (State.giveUpLabel_frame s i).2.2.2.2.1
@[simp] theorem State.giveUpLabel_exposure (s : State) (i : Nat) : (s.giveUpLabel i).exposure = s.exposure :=
  (State.giveUpLabel_frame s i).2.2.2.2.2.1
@[simp] theorem State.giveUpLabel_transport (s : State) (i : Nat) : (s.giveUpLabel i).transport = s.transport :=
  (State.giveUpLabel_frame s i).2.2.2.2.2.2.1
@[simp] theorem State.giveUpLabel_rolls (s : State) (i : Nat) : (s.giveUpLabel i).rolls = s.rolls :=
  (State.giveUpLabel_frame s i).2.2.2.2.2.2.2.1
@[simp] theorem State.giveUpLabel_labels (s : State) (i : Nat) : (s.giveUpLabel i).labels = s.labels :=
  (State.giveUpLabel_frame s i).2.2.2.2.2.2.2.2.1
@[simp] theorem State.giveUpLabel_panel (s : State) (i : Nat) : (s.giveUpLabel i).panel = s.panel :=
  (State.giveUpLabel_frame s i).2.2.2.2.2.2.2.2.2.1
@[simp] theorem State.giveUpLabel_pending (s : State) (i : Nat) : (s.giveUpLabel i).pending = s.pending :=
  (State.giveUpLabel_frame s i).2.2.2.2.2.2.2.2.2.2

/-! ## finishOrder: A finish (R24). -/

theorem State.finishOrder_frame (s : State) (i : Nat) (f : OrderState) :
    (s.finishOrder i f).power = s.power ∧
    (s.finishOrder i f).line = s.line ∧
    (s.finishOrder i f).metering = s.metering ∧
    (s.finishOrder i f).films = s.films ∧
    (s.finishOrder i f).calibration = s.calibration ∧
    (s.finishOrder i f).exposure = s.exposure ∧
    (s.finishOrder i f).transport = s.transport ∧
    (s.finishOrder i f).rolls = s.rolls ∧
    (s.finishOrder i f).labels = s.labels ∧
    (s.finishOrder i f).panel = s.panel ∧
    (s.finishOrder i f).pending = s.pending := by
  unfold State.finishOrder; dsimp only; (repeat' split) <;> simp

@[simp] theorem State.finishOrder_power (s : State) (i : Nat) (f : OrderState) : (s.finishOrder i f).power = s.power :=
  (State.finishOrder_frame s i f).1
@[simp] theorem State.finishOrder_line (s : State) (i : Nat) (f : OrderState) : (s.finishOrder i f).line = s.line :=
  (State.finishOrder_frame s i f).2.1
@[simp] theorem State.finishOrder_metering (s : State) (i : Nat) (f : OrderState) : (s.finishOrder i f).metering = s.metering :=
  (State.finishOrder_frame s i f).2.2.1
@[simp] theorem State.finishOrder_films (s : State) (i : Nat) (f : OrderState) : (s.finishOrder i f).films = s.films :=
  (State.finishOrder_frame s i f).2.2.2.1
@[simp] theorem State.finishOrder_calibration (s : State) (i : Nat) (f : OrderState) : (s.finishOrder i f).calibration = s.calibration :=
  (State.finishOrder_frame s i f).2.2.2.2.1
@[simp] theorem State.finishOrder_exposure (s : State) (i : Nat) (f : OrderState) : (s.finishOrder i f).exposure = s.exposure :=
  (State.finishOrder_frame s i f).2.2.2.2.2.1
@[simp] theorem State.finishOrder_transport (s : State) (i : Nat) (f : OrderState) : (s.finishOrder i f).transport = s.transport :=
  (State.finishOrder_frame s i f).2.2.2.2.2.2.1
@[simp] theorem State.finishOrder_rolls (s : State) (i : Nat) (f : OrderState) : (s.finishOrder i f).rolls = s.rolls :=
  (State.finishOrder_frame s i f).2.2.2.2.2.2.2.1
@[simp] theorem State.finishOrder_labels (s : State) (i : Nat) (f : OrderState) : (s.finishOrder i f).labels = s.labels :=
  (State.finishOrder_frame s i f).2.2.2.2.2.2.2.2.1
@[simp] theorem State.finishOrder_panel (s : State) (i : Nat) (f : OrderState) : (s.finishOrder i f).panel = s.panel :=
  (State.finishOrder_frame s i f).2.2.2.2.2.2.2.2.2.1
@[simp] theorem State.finishOrder_pending (s : State) (i : Nat) (f : OrderState) : (s.finishOrder i f).pending = s.pending :=
  (State.finishOrder_frame s i f).2.2.2.2.2.2.2.2.2.2

/-! ## pauseOrder: A pause (R18). -/

@[simp] theorem State.pauseOrder_power (s : State) (i : Nat) (r : PauseReason) : (s.pauseOrder i r).power = s.power := rfl
@[simp] theorem State.pauseOrder_line (s : State) (i : Nat) (r : PauseReason) : (s.pauseOrder i r).line = s.line := rfl
@[simp] theorem State.pauseOrder_metering (s : State) (i : Nat) (r : PauseReason) : (s.pauseOrder i r).metering = s.metering := rfl
@[simp] theorem State.pauseOrder_films (s : State) (i : Nat) (r : PauseReason) : (s.pauseOrder i r).films = s.films := rfl
@[simp] theorem State.pauseOrder_calibration (s : State) (i : Nat) (r : PauseReason) : (s.pauseOrder i r).calibration = s.calibration := rfl
@[simp] theorem State.pauseOrder_exposure (s : State) (i : Nat) (r : PauseReason) : (s.pauseOrder i r).exposure = s.exposure := rfl
@[simp] theorem State.pauseOrder_transport (s : State) (i : Nat) (r : PauseReason) : (s.pauseOrder i r).transport = s.transport := rfl
@[simp] theorem State.pauseOrder_rolls (s : State) (i : Nat) (r : PauseReason) : (s.pauseOrder i r).rolls = s.rolls := rfl
@[simp] theorem State.pauseOrder_labels (s : State) (i : Nat) (r : PauseReason) : (s.pauseOrder i r).labels = s.labels := rfl
@[simp] theorem State.pauseOrder_accounts (s : State) (i : Nat) (r : PauseReason) : (s.pauseOrder i r).accounts = s.accounts := rfl
@[simp] theorem State.pauseOrder_store (s : State) (i : Nat) (r : PauseReason) : (s.pauseOrder i r).store = s.store := rfl
@[simp] theorem State.pauseOrder_panel (s : State) (i : Nat) (r : PauseReason) : (s.pauseOrder i r).panel = s.panel := rfl
@[simp] theorem State.pauseOrder_pending (s : State) (i : Nat) (r : PauseReason) : (s.pauseOrder i r).pending = s.pending := rfl

/-! ## mapRoll: A change of a roll record. -/

@[simp] theorem State.mapRoll_power (s : State) (n : Nat) (f : Roll → Roll) : (s.mapRoll n f).power = s.power := rfl
@[simp] theorem State.mapRoll_line (s : State) (n : Nat) (f : Roll → Roll) : (s.mapRoll n f).line = s.line := rfl
@[simp] theorem State.mapRoll_notices (s : State) (n : Nat) (f : Roll → Roll) : (s.mapRoll n f).notices = s.notices := rfl
@[simp] theorem State.mapRoll_orders (s : State) (n : Nat) (f : Roll → Roll) : (s.mapRoll n f).orders = s.orders := rfl
@[simp] theorem State.mapRoll_metering (s : State) (n : Nat) (f : Roll → Roll) : (s.mapRoll n f).metering = s.metering := rfl
@[simp] theorem State.mapRoll_films (s : State) (n : Nat) (f : Roll → Roll) : (s.mapRoll n f).films = s.films := rfl
@[simp] theorem State.mapRoll_calibration (s : State) (n : Nat) (f : Roll → Roll) : (s.mapRoll n f).calibration = s.calibration := rfl
@[simp] theorem State.mapRoll_exposure (s : State) (n : Nat) (f : Roll → Roll) : (s.mapRoll n f).exposure = s.exposure := rfl
@[simp] theorem State.mapRoll_transport (s : State) (n : Nat) (f : Roll → Roll) : (s.mapRoll n f).transport = s.transport := rfl
@[simp] theorem State.mapRoll_labels (s : State) (n : Nat) (f : Roll → Roll) : (s.mapRoll n f).labels = s.labels := rfl
@[simp] theorem State.mapRoll_accounts (s : State) (n : Nat) (f : Roll → Roll) : (s.mapRoll n f).accounts = s.accounts := rfl
@[simp] theorem State.mapRoll_store (s : State) (n : Nat) (f : Roll → Roll) : (s.mapRoll n f).store = s.store := rfl
@[simp] theorem State.mapRoll_panel (s : State) (n : Nat) (f : Roll → Roll) : (s.mapRoll n f).panel = s.panel := rfl
@[simp] theorem State.mapRoll_pending (s : State) (n : Nat) (f : Roll → Roll) : (s.mapRoll n f).pending = s.pending := rfl

/-! ## mapRollInCamera: A change of the roll in camera. -/

theorem State.mapRollInCamera_frame (s : State) (f : Roll → Roll) :
    (s.mapRollInCamera f).power = s.power ∧
    (s.mapRollInCamera f).line = s.line ∧
    (s.mapRollInCamera f).notices = s.notices ∧
    (s.mapRollInCamera f).orders = s.orders ∧
    (s.mapRollInCamera f).metering = s.metering ∧
    (s.mapRollInCamera f).films = s.films ∧
    (s.mapRollInCamera f).calibration = s.calibration ∧
    (s.mapRollInCamera f).exposure = s.exposure ∧
    (s.mapRollInCamera f).transport = s.transport ∧
    (s.mapRollInCamera f).labels = s.labels ∧
    (s.mapRollInCamera f).accounts = s.accounts ∧
    (s.mapRollInCamera f).store = s.store ∧
    (s.mapRollInCamera f).panel = s.panel ∧
    (s.mapRollInCamera f).pending = s.pending := by
  unfold State.mapRollInCamera; split <;> simp

@[simp] theorem State.mapRollInCamera_power (s : State) (f : Roll → Roll) : (s.mapRollInCamera f).power = s.power :=
  (State.mapRollInCamera_frame s f).1
@[simp] theorem State.mapRollInCamera_line (s : State) (f : Roll → Roll) : (s.mapRollInCamera f).line = s.line :=
  (State.mapRollInCamera_frame s f).2.1
@[simp] theorem State.mapRollInCamera_notices (s : State) (f : Roll → Roll) : (s.mapRollInCamera f).notices = s.notices :=
  (State.mapRollInCamera_frame s f).2.2.1
@[simp] theorem State.mapRollInCamera_orders (s : State) (f : Roll → Roll) : (s.mapRollInCamera f).orders = s.orders :=
  (State.mapRollInCamera_frame s f).2.2.2.1
@[simp] theorem State.mapRollInCamera_metering (s : State) (f : Roll → Roll) : (s.mapRollInCamera f).metering = s.metering :=
  (State.mapRollInCamera_frame s f).2.2.2.2.1
@[simp] theorem State.mapRollInCamera_films (s : State) (f : Roll → Roll) : (s.mapRollInCamera f).films = s.films :=
  (State.mapRollInCamera_frame s f).2.2.2.2.2.1
@[simp] theorem State.mapRollInCamera_calibration (s : State) (f : Roll → Roll) : (s.mapRollInCamera f).calibration = s.calibration :=
  (State.mapRollInCamera_frame s f).2.2.2.2.2.2.1
@[simp] theorem State.mapRollInCamera_exposure (s : State) (f : Roll → Roll) : (s.mapRollInCamera f).exposure = s.exposure :=
  (State.mapRollInCamera_frame s f).2.2.2.2.2.2.2.1
@[simp] theorem State.mapRollInCamera_transport (s : State) (f : Roll → Roll) : (s.mapRollInCamera f).transport = s.transport :=
  (State.mapRollInCamera_frame s f).2.2.2.2.2.2.2.2.1
@[simp] theorem State.mapRollInCamera_labels (s : State) (f : Roll → Roll) : (s.mapRollInCamera f).labels = s.labels :=
  (State.mapRollInCamera_frame s f).2.2.2.2.2.2.2.2.2.1
@[simp] theorem State.mapRollInCamera_accounts (s : State) (f : Roll → Roll) : (s.mapRollInCamera f).accounts = s.accounts :=
  (State.mapRollInCamera_frame s f).2.2.2.2.2.2.2.2.2.2.1
@[simp] theorem State.mapRollInCamera_store (s : State) (f : Roll → Roll) : (s.mapRollInCamera f).store = s.store :=
  (State.mapRollInCamera_frame s f).2.2.2.2.2.2.2.2.2.2.2.1
@[simp] theorem State.mapRollInCamera_panel (s : State) (f : Roll → Roll) : (s.mapRollInCamera f).panel = s.panel :=
  (State.mapRollInCamera_frame s f).2.2.2.2.2.2.2.2.2.2.2.2.1
@[simp] theorem State.mapRollInCamera_pending (s : State) (f : Roll → Roll) : (s.mapRollInCamera f).pending = s.pending :=
  (State.mapRollInCamera_frame s f).2.2.2.2.2.2.2.2.2.2.2.2.2

/-! ## recordFrame: A frame's outcome is recorded (R105, R106). -/

theorem State.recordFrame_frame (s : State) (o : Order) (f : FrameState) (m : Nat) :
    (s.recordFrame o f m).power = s.power ∧
    (s.recordFrame o f m).line = s.line ∧
    (s.recordFrame o f m).notices = s.notices ∧
    (s.recordFrame o f m).orders = s.orders ∧
    (s.recordFrame o f m).metering = s.metering ∧
    (s.recordFrame o f m).films = s.films ∧
    (s.recordFrame o f m).calibration = s.calibration ∧
    (s.recordFrame o f m).exposure = s.exposure ∧
    (s.recordFrame o f m).transport = s.transport ∧
    (s.recordFrame o f m).labels = s.labels ∧
    (s.recordFrame o f m).accounts = s.accounts ∧
    (s.recordFrame o f m).store = s.store ∧
    (s.recordFrame o f m).panel = s.panel ∧
    (s.recordFrame o f m).pending = s.pending := by
  simp [State.recordFrame]

@[simp] theorem State.recordFrame_power (s : State) (o : Order) (f : FrameState) (m : Nat) : (s.recordFrame o f m).power = s.power :=
  (State.recordFrame_frame s o f m).1
@[simp] theorem State.recordFrame_line (s : State) (o : Order) (f : FrameState) (m : Nat) : (s.recordFrame o f m).line = s.line :=
  (State.recordFrame_frame s o f m).2.1
@[simp] theorem State.recordFrame_notices (s : State) (o : Order) (f : FrameState) (m : Nat) : (s.recordFrame o f m).notices = s.notices :=
  (State.recordFrame_frame s o f m).2.2.1
@[simp] theorem State.recordFrame_orders (s : State) (o : Order) (f : FrameState) (m : Nat) : (s.recordFrame o f m).orders = s.orders :=
  (State.recordFrame_frame s o f m).2.2.2.1
@[simp] theorem State.recordFrame_metering (s : State) (o : Order) (f : FrameState) (m : Nat) : (s.recordFrame o f m).metering = s.metering :=
  (State.recordFrame_frame s o f m).2.2.2.2.1
@[simp] theorem State.recordFrame_films (s : State) (o : Order) (f : FrameState) (m : Nat) : (s.recordFrame o f m).films = s.films :=
  (State.recordFrame_frame s o f m).2.2.2.2.2.1
@[simp] theorem State.recordFrame_calibration (s : State) (o : Order) (f : FrameState) (m : Nat) : (s.recordFrame o f m).calibration = s.calibration :=
  (State.recordFrame_frame s o f m).2.2.2.2.2.2.1
@[simp] theorem State.recordFrame_exposure (s : State) (o : Order) (f : FrameState) (m : Nat) : (s.recordFrame o f m).exposure = s.exposure :=
  (State.recordFrame_frame s o f m).2.2.2.2.2.2.2.1
@[simp] theorem State.recordFrame_transport (s : State) (o : Order) (f : FrameState) (m : Nat) : (s.recordFrame o f m).transport = s.transport :=
  (State.recordFrame_frame s o f m).2.2.2.2.2.2.2.2.1
@[simp] theorem State.recordFrame_labels (s : State) (o : Order) (f : FrameState) (m : Nat) : (s.recordFrame o f m).labels = s.labels :=
  (State.recordFrame_frame s o f m).2.2.2.2.2.2.2.2.2.1
@[simp] theorem State.recordFrame_accounts (s : State) (o : Order) (f : FrameState) (m : Nat) : (s.recordFrame o f m).accounts = s.accounts :=
  (State.recordFrame_frame s o f m).2.2.2.2.2.2.2.2.2.2.1
@[simp] theorem State.recordFrame_store (s : State) (o : Order) (f : FrameState) (m : Nat) : (s.recordFrame o f m).store = s.store :=
  (State.recordFrame_frame s o f m).2.2.2.2.2.2.2.2.2.2.2.1
@[simp] theorem State.recordFrame_panel (s : State) (o : Order) (f : FrameState) (m : Nat) : (s.recordFrame o f m).panel = s.panel :=
  (State.recordFrame_frame s o f m).2.2.2.2.2.2.2.2.2.2.2.2.1
@[simp] theorem State.recordFrame_pending (s : State) (o : Order) (f : FrameState) (m : Nat) : (s.recordFrame o f m).pending = s.pending :=
  (State.recordFrame_frame s o f m).2.2.2.2.2.2.2.2.2.2.2.2.2

/-! ## lightLamp: The lamp is lit (R63). -/

@[simp] theorem State.lightLamp_power (s : State) (k : Nat) (p : Purpose) : (s.lightLamp k p).power = s.power := rfl
@[simp] theorem State.lightLamp_line (s : State) (k : Nat) (p : Purpose) : (s.lightLamp k p).line = s.line := rfl
@[simp] theorem State.lightLamp_notices (s : State) (k : Nat) (p : Purpose) : (s.lightLamp k p).notices = s.notices := rfl
@[simp] theorem State.lightLamp_orders (s : State) (k : Nat) (p : Purpose) : (s.lightLamp k p).orders = s.orders := rfl
@[simp] theorem State.lightLamp_metering (s : State) (k : Nat) (p : Purpose) : (s.lightLamp k p).metering = s.metering := rfl
@[simp] theorem State.lightLamp_films (s : State) (k : Nat) (p : Purpose) : (s.lightLamp k p).films = s.films := rfl
@[simp] theorem State.lightLamp_calibration (s : State) (k : Nat) (p : Purpose) : (s.lightLamp k p).calibration = s.calibration := rfl
@[simp] theorem State.lightLamp_transport (s : State) (k : Nat) (p : Purpose) : (s.lightLamp k p).transport = s.transport := rfl
@[simp] theorem State.lightLamp_rolls (s : State) (k : Nat) (p : Purpose) : (s.lightLamp k p).rolls = s.rolls := rfl
@[simp] theorem State.lightLamp_labels (s : State) (k : Nat) (p : Purpose) : (s.lightLamp k p).labels = s.labels := rfl
@[simp] theorem State.lightLamp_accounts (s : State) (k : Nat) (p : Purpose) : (s.lightLamp k p).accounts = s.accounts := rfl
@[simp] theorem State.lightLamp_store (s : State) (k : Nat) (p : Purpose) : (s.lightLamp k p).store = s.store := rfl
@[simp] theorem State.lightLamp_panel (s : State) (k : Nat) (p : Purpose) : (s.lightLamp k p).panel = s.panel := rfl
@[simp] theorem State.lightLamp_pending (s : State) (k : Nat) (p : Purpose) : (s.lightLamp k p).pending = s.pending := rfl

/-! ## endLighting: A lighting ends (R63). -/

@[simp] theorem State.endLighting_power (s : State) : (s.endLighting).power = s.power := rfl
@[simp] theorem State.endLighting_line (s : State) : (s.endLighting).line = s.line := rfl
@[simp] theorem State.endLighting_notices (s : State) : (s.endLighting).notices = s.notices := rfl
@[simp] theorem State.endLighting_orders (s : State) : (s.endLighting).orders = s.orders := rfl
@[simp] theorem State.endLighting_metering (s : State) : (s.endLighting).metering = s.metering := rfl
@[simp] theorem State.endLighting_films (s : State) : (s.endLighting).films = s.films := rfl
@[simp] theorem State.endLighting_calibration (s : State) : (s.endLighting).calibration = s.calibration := rfl
@[simp] theorem State.endLighting_transport (s : State) : (s.endLighting).transport = s.transport := rfl
@[simp] theorem State.endLighting_rolls (s : State) : (s.endLighting).rolls = s.rolls := rfl
@[simp] theorem State.endLighting_labels (s : State) : (s.endLighting).labels = s.labels := rfl
@[simp] theorem State.endLighting_accounts (s : State) : (s.endLighting).accounts = s.accounts := rfl
@[simp] theorem State.endLighting_store (s : State) : (s.endLighting).store = s.store := rfl
@[simp] theorem State.endLighting_panel (s : State) : (s.endLighting).panel = s.panel := rfl
@[simp] theorem State.endLighting_pending (s : State) : (s.endLighting).pending = s.pending := rfl

/-! ## litFor: The lit time is set (log 1). -/

@[simp] theorem State.litFor_power (s : State) (m : Nat) : (s.litFor m).power = s.power := rfl
@[simp] theorem State.litFor_line (s : State) (m : Nat) : (s.litFor m).line = s.line := rfl
@[simp] theorem State.litFor_notices (s : State) (m : Nat) : (s.litFor m).notices = s.notices := rfl
@[simp] theorem State.litFor_orders (s : State) (m : Nat) : (s.litFor m).orders = s.orders := rfl
@[simp] theorem State.litFor_metering (s : State) (m : Nat) : (s.litFor m).metering = s.metering := rfl
@[simp] theorem State.litFor_films (s : State) (m : Nat) : (s.litFor m).films = s.films := rfl
@[simp] theorem State.litFor_calibration (s : State) (m : Nat) : (s.litFor m).calibration = s.calibration := rfl
@[simp] theorem State.litFor_transport (s : State) (m : Nat) : (s.litFor m).transport = s.transport := rfl
@[simp] theorem State.litFor_rolls (s : State) (m : Nat) : (s.litFor m).rolls = s.rolls := rfl
@[simp] theorem State.litFor_labels (s : State) (m : Nat) : (s.litFor m).labels = s.labels := rfl
@[simp] theorem State.litFor_accounts (s : State) (m : Nat) : (s.litFor m).accounts = s.accounts := rfl
@[simp] theorem State.litFor_store (s : State) (m : Nat) : (s.litFor m).store = s.store := rfl
@[simp] theorem State.litFor_panel (s : State) (m : Nat) : (s.litFor m).panel = s.panel := rfl
@[simp] theorem State.litFor_pending (s : State) (m : Nat) : (s.litFor m).pending = s.pending := rfl

/-! ## meterIdle: The Metering Unit returns to IDLE. -/

@[simp] theorem State.meterIdle_power (s : State) : (s.meterIdle).power = s.power := rfl
@[simp] theorem State.meterIdle_line (s : State) : (s.meterIdle).line = s.line := rfl
@[simp] theorem State.meterIdle_notices (s : State) : (s.meterIdle).notices = s.notices := rfl
@[simp] theorem State.meterIdle_orders (s : State) : (s.meterIdle).orders = s.orders := rfl
@[simp] theorem State.meterIdle_films (s : State) : (s.meterIdle).films = s.films := rfl
@[simp] theorem State.meterIdle_calibration (s : State) : (s.meterIdle).calibration = s.calibration := rfl
@[simp] theorem State.meterIdle_exposure (s : State) : (s.meterIdle).exposure = s.exposure := rfl
@[simp] theorem State.meterIdle_transport (s : State) : (s.meterIdle).transport = s.transport := rfl
@[simp] theorem State.meterIdle_rolls (s : State) : (s.meterIdle).rolls = s.rolls := rfl
@[simp] theorem State.meterIdle_labels (s : State) : (s.meterIdle).labels = s.labels := rfl
@[simp] theorem State.meterIdle_accounts (s : State) : (s.meterIdle).accounts = s.accounts := rfl
@[simp] theorem State.meterIdle_store (s : State) : (s.meterIdle).store = s.store := rfl
@[simp] theorem State.meterIdle_panel (s : State) : (s.meterIdle).panel = s.panel := rfl
@[simp] theorem State.meterIdle_pending (s : State) : (s.meterIdle).pending = s.pending := rfl

/-! ## writeRecord: The last metering record is written (R32). -/

@[simp] theorem State.writeRecord_power (s : State) (r : MeterRecord) : (s.writeRecord r).power = s.power := rfl
@[simp] theorem State.writeRecord_line (s : State) (r : MeterRecord) : (s.writeRecord r).line = s.line := rfl
@[simp] theorem State.writeRecord_notices (s : State) (r : MeterRecord) : (s.writeRecord r).notices = s.notices := rfl
@[simp] theorem State.writeRecord_orders (s : State) (r : MeterRecord) : (s.writeRecord r).orders = s.orders := rfl
@[simp] theorem State.writeRecord_films (s : State) (r : MeterRecord) : (s.writeRecord r).films = s.films := rfl
@[simp] theorem State.writeRecord_calibration (s : State) (r : MeterRecord) : (s.writeRecord r).calibration = s.calibration := rfl
@[simp] theorem State.writeRecord_exposure (s : State) (r : MeterRecord) : (s.writeRecord r).exposure = s.exposure := rfl
@[simp] theorem State.writeRecord_transport (s : State) (r : MeterRecord) : (s.writeRecord r).transport = s.transport := rfl
@[simp] theorem State.writeRecord_rolls (s : State) (r : MeterRecord) : (s.writeRecord r).rolls = s.rolls := rfl
@[simp] theorem State.writeRecord_labels (s : State) (r : MeterRecord) : (s.writeRecord r).labels = s.labels := rfl
@[simp] theorem State.writeRecord_accounts (s : State) (r : MeterRecord) : (s.writeRecord r).accounts = s.accounts := rfl
@[simp] theorem State.writeRecord_store (s : State) (r : MeterRecord) : (s.writeRecord r).store = s.store := rfl
@[simp] theorem State.writeRecord_panel (s : State) (r : MeterRecord) : (s.writeRecord r).panel = s.panel := rfl
@[simp] theorem State.writeRecord_pending (s : State) (r : MeterRecord) : (s.writeRecord r).pending = s.pending := rfl

/-! ## noteAbandoned: METERING_DONE for an abandonment by the gate (R40, R42). -/

theorem State.noteAbandoned_frame (s : State) (b : Bool) :
    (s.noteAbandoned b).power = s.power ∧
    (s.noteAbandoned b).line = s.line ∧
    (s.noteAbandoned b).orders = s.orders ∧
    (s.noteAbandoned b).metering = s.metering ∧
    (s.noteAbandoned b).films = s.films ∧
    (s.noteAbandoned b).calibration = s.calibration ∧
    (s.noteAbandoned b).exposure = s.exposure ∧
    (s.noteAbandoned b).transport = s.transport ∧
    (s.noteAbandoned b).rolls = s.rolls ∧
    (s.noteAbandoned b).labels = s.labels ∧
    (s.noteAbandoned b).accounts = s.accounts ∧
    (s.noteAbandoned b).store = s.store ∧
    (s.noteAbandoned b).panel = s.panel ∧
    (s.noteAbandoned b).pending = s.pending := by
  unfold State.noteAbandoned; split <;> simp

@[simp] theorem State.noteAbandoned_power (s : State) (b : Bool) : (s.noteAbandoned b).power = s.power :=
  (State.noteAbandoned_frame s b).1
@[simp] theorem State.noteAbandoned_line (s : State) (b : Bool) : (s.noteAbandoned b).line = s.line :=
  (State.noteAbandoned_frame s b).2.1
@[simp] theorem State.noteAbandoned_orders (s : State) (b : Bool) : (s.noteAbandoned b).orders = s.orders :=
  (State.noteAbandoned_frame s b).2.2.1
@[simp] theorem State.noteAbandoned_metering (s : State) (b : Bool) : (s.noteAbandoned b).metering = s.metering :=
  (State.noteAbandoned_frame s b).2.2.2.1
@[simp] theorem State.noteAbandoned_films (s : State) (b : Bool) : (s.noteAbandoned b).films = s.films :=
  (State.noteAbandoned_frame s b).2.2.2.2.1
@[simp] theorem State.noteAbandoned_calibration (s : State) (b : Bool) : (s.noteAbandoned b).calibration = s.calibration :=
  (State.noteAbandoned_frame s b).2.2.2.2.2.1
@[simp] theorem State.noteAbandoned_exposure (s : State) (b : Bool) : (s.noteAbandoned b).exposure = s.exposure :=
  (State.noteAbandoned_frame s b).2.2.2.2.2.2.1
@[simp] theorem State.noteAbandoned_transport (s : State) (b : Bool) : (s.noteAbandoned b).transport = s.transport :=
  (State.noteAbandoned_frame s b).2.2.2.2.2.2.2.1
@[simp] theorem State.noteAbandoned_rolls (s : State) (b : Bool) : (s.noteAbandoned b).rolls = s.rolls :=
  (State.noteAbandoned_frame s b).2.2.2.2.2.2.2.2.1
@[simp] theorem State.noteAbandoned_labels (s : State) (b : Bool) : (s.noteAbandoned b).labels = s.labels :=
  (State.noteAbandoned_frame s b).2.2.2.2.2.2.2.2.2.1
@[simp] theorem State.noteAbandoned_accounts (s : State) (b : Bool) : (s.noteAbandoned b).accounts = s.accounts :=
  (State.noteAbandoned_frame s b).2.2.2.2.2.2.2.2.2.2.1
@[simp] theorem State.noteAbandoned_store (s : State) (b : Bool) : (s.noteAbandoned b).store = s.store :=
  (State.noteAbandoned_frame s b).2.2.2.2.2.2.2.2.2.2.2.1
@[simp] theorem State.noteAbandoned_panel (s : State) (b : Bool) : (s.noteAbandoned b).panel = s.panel :=
  (State.noteAbandoned_frame s b).2.2.2.2.2.2.2.2.2.2.2.2.1
@[simp] theorem State.noteAbandoned_pending (s : State) (b : Bool) : (s.noteAbandoned b).pending = s.pending :=
  (State.noteAbandoned_frame s b).2.2.2.2.2.2.2.2.2.2.2.2.2

/-! ## abandonPass: A pass is abandoned (R31, R73). -/

@[simp] theorem State.abandonPass_power (s : State) : (s.abandonPass).power = s.power := rfl
@[simp] theorem State.abandonPass_line (s : State) : (s.abandonPass).line = s.line := rfl
@[simp] theorem State.abandonPass_notices (s : State) : (s.abandonPass).notices = s.notices := rfl
@[simp] theorem State.abandonPass_orders (s : State) : (s.abandonPass).orders = s.orders := rfl
@[simp] theorem State.abandonPass_films (s : State) : (s.abandonPass).films = s.films := rfl
@[simp] theorem State.abandonPass_calibration (s : State) : (s.abandonPass).calibration = s.calibration := rfl
@[simp] theorem State.abandonPass_transport (s : State) : (s.abandonPass).transport = s.transport := rfl
@[simp] theorem State.abandonPass_rolls (s : State) : (s.abandonPass).rolls = s.rolls := rfl
@[simp] theorem State.abandonPass_labels (s : State) : (s.abandonPass).labels = s.labels := rfl
@[simp] theorem State.abandonPass_accounts (s : State) : (s.abandonPass).accounts = s.accounts := rfl
@[simp] theorem State.abandonPass_store (s : State) : (s.abandonPass).store = s.store := rfl
@[simp] theorem State.abandonPass_panel (s : State) : (s.abandonPass).panel = s.panel := rfl
@[simp] theorem State.abandonPass_pending (s : State) : (s.abandonPass).pending = s.pending := rfl

/-! ## abandonTest: A test is abandoned (R42). -/

theorem State.abandonTest_frame (s : State) (b : Bool) :
    (s.abandonTest b).power = s.power ∧
    (s.abandonTest b).line = s.line ∧
    (s.abandonTest b).orders = s.orders ∧
    (s.abandonTest b).films = s.films ∧
    (s.abandonTest b).calibration = s.calibration ∧
    (s.abandonTest b).transport = s.transport ∧
    (s.abandonTest b).rolls = s.rolls ∧
    (s.abandonTest b).labels = s.labels ∧
    (s.abandonTest b).accounts = s.accounts ∧
    (s.abandonTest b).store = s.store ∧
    (s.abandonTest b).panel = s.panel ∧
    (s.abandonTest b).pending = s.pending := by
  unfold State.abandonTest; dsimp only; (repeat' split) <;> simp

@[simp] theorem State.abandonTest_power (s : State) (b : Bool) : (s.abandonTest b).power = s.power :=
  (State.abandonTest_frame s b).1
@[simp] theorem State.abandonTest_line (s : State) (b : Bool) : (s.abandonTest b).line = s.line :=
  (State.abandonTest_frame s b).2.1
@[simp] theorem State.abandonTest_orders (s : State) (b : Bool) : (s.abandonTest b).orders = s.orders :=
  (State.abandonTest_frame s b).2.2.1
@[simp] theorem State.abandonTest_films (s : State) (b : Bool) : (s.abandonTest b).films = s.films :=
  (State.abandonTest_frame s b).2.2.2.1
@[simp] theorem State.abandonTest_calibration (s : State) (b : Bool) : (s.abandonTest b).calibration = s.calibration :=
  (State.abandonTest_frame s b).2.2.2.2.1
@[simp] theorem State.abandonTest_transport (s : State) (b : Bool) : (s.abandonTest b).transport = s.transport :=
  (State.abandonTest_frame s b).2.2.2.2.2.1
@[simp] theorem State.abandonTest_rolls (s : State) (b : Bool) : (s.abandonTest b).rolls = s.rolls :=
  (State.abandonTest_frame s b).2.2.2.2.2.2.1
@[simp] theorem State.abandonTest_labels (s : State) (b : Bool) : (s.abandonTest b).labels = s.labels :=
  (State.abandonTest_frame s b).2.2.2.2.2.2.2.1
@[simp] theorem State.abandonTest_accounts (s : State) (b : Bool) : (s.abandonTest b).accounts = s.accounts :=
  (State.abandonTest_frame s b).2.2.2.2.2.2.2.2.1
@[simp] theorem State.abandonTest_store (s : State) (b : Bool) : (s.abandonTest b).store = s.store :=
  (State.abandonTest_frame s b).2.2.2.2.2.2.2.2.2.1
@[simp] theorem State.abandonTest_panel (s : State) (b : Bool) : (s.abandonTest b).panel = s.panel :=
  (State.abandonTest_frame s b).2.2.2.2.2.2.2.2.2.2.1
@[simp] theorem State.abandonTest_pending (s : State) (b : Bool) : (s.abandonTest b).pending = s.pending :=
  (State.abandonTest_frame s b).2.2.2.2.2.2.2.2.2.2.2

/-! ## abandonCalibration: A calibration is abandoned (R40). -/

theorem State.abandonCalibration_frame (s : State) (b : Bool) :
    (s.abandonCalibration b).power = s.power ∧
    (s.abandonCalibration b).line = s.line ∧
    (s.abandonCalibration b).orders = s.orders ∧
    (s.abandonCalibration b).films = s.films ∧
    (s.abandonCalibration b).calibration = s.calibration ∧
    (s.abandonCalibration b).transport = s.transport ∧
    (s.abandonCalibration b).rolls = s.rolls ∧
    (s.abandonCalibration b).labels = s.labels ∧
    (s.abandonCalibration b).accounts = s.accounts ∧
    (s.abandonCalibration b).store = s.store ∧
    (s.abandonCalibration b).panel = s.panel ∧
    (s.abandonCalibration b).pending = s.pending := by
  unfold State.abandonCalibration; dsimp only; (repeat' split) <;> simp

@[simp] theorem State.abandonCalibration_power (s : State) (b : Bool) : (s.abandonCalibration b).power = s.power :=
  (State.abandonCalibration_frame s b).1
@[simp] theorem State.abandonCalibration_line (s : State) (b : Bool) : (s.abandonCalibration b).line = s.line :=
  (State.abandonCalibration_frame s b).2.1
@[simp] theorem State.abandonCalibration_orders (s : State) (b : Bool) : (s.abandonCalibration b).orders = s.orders :=
  (State.abandonCalibration_frame s b).2.2.1
@[simp] theorem State.abandonCalibration_films (s : State) (b : Bool) : (s.abandonCalibration b).films = s.films :=
  (State.abandonCalibration_frame s b).2.2.2.1
@[simp] theorem State.abandonCalibration_calibration (s : State) (b : Bool) : (s.abandonCalibration b).calibration = s.calibration :=
  (State.abandonCalibration_frame s b).2.2.2.2.1
@[simp] theorem State.abandonCalibration_transport (s : State) (b : Bool) : (s.abandonCalibration b).transport = s.transport :=
  (State.abandonCalibration_frame s b).2.2.2.2.2.1
@[simp] theorem State.abandonCalibration_rolls (s : State) (b : Bool) : (s.abandonCalibration b).rolls = s.rolls :=
  (State.abandonCalibration_frame s b).2.2.2.2.2.2.1
@[simp] theorem State.abandonCalibration_labels (s : State) (b : Bool) : (s.abandonCalibration b).labels = s.labels :=
  (State.abandonCalibration_frame s b).2.2.2.2.2.2.2.1
@[simp] theorem State.abandonCalibration_accounts (s : State) (b : Bool) : (s.abandonCalibration b).accounts = s.accounts :=
  (State.abandonCalibration_frame s b).2.2.2.2.2.2.2.2.1
@[simp] theorem State.abandonCalibration_store (s : State) (b : Bool) : (s.abandonCalibration b).store = s.store :=
  (State.abandonCalibration_frame s b).2.2.2.2.2.2.2.2.2.1
@[simp] theorem State.abandonCalibration_panel (s : State) (b : Bool) : (s.abandonCalibration b).panel = s.panel :=
  (State.abandonCalibration_frame s b).2.2.2.2.2.2.2.2.2.2.1
@[simp] theorem State.abandonCalibration_pending (s : State) (b : Bool) : (s.abandonCalibration b).pending = s.pending :=
  (State.abandonCalibration_frame s b).2.2.2.2.2.2.2.2.2.2.2

/-! ## requestAdvance: An advance is asked for (R90, R91). -/

theorem State.requestAdvance_frame (s : State) (i : Nat) :
    (s.requestAdvance i).power = s.power ∧
    (s.requestAdvance i).line = s.line ∧
    (s.requestAdvance i).orders = s.orders ∧
    (s.requestAdvance i).metering = s.metering ∧
    (s.requestAdvance i).films = s.films ∧
    (s.requestAdvance i).calibration = s.calibration ∧
    (s.requestAdvance i).exposure = s.exposure ∧
    (s.requestAdvance i).rolls = s.rolls ∧
    (s.requestAdvance i).labels = s.labels ∧
    (s.requestAdvance i).accounts = s.accounts ∧
    (s.requestAdvance i).store = s.store ∧
    (s.requestAdvance i).panel = s.panel ∧
    (s.requestAdvance i).pending = s.pending := by
  unfold State.requestAdvance; split <;> simp

@[simp] theorem State.requestAdvance_power (s : State) (i : Nat) : (s.requestAdvance i).power = s.power :=
  (State.requestAdvance_frame s i).1
@[simp] theorem State.requestAdvance_line (s : State) (i : Nat) : (s.requestAdvance i).line = s.line :=
  (State.requestAdvance_frame s i).2.1
@[simp] theorem State.requestAdvance_orders (s : State) (i : Nat) : (s.requestAdvance i).orders = s.orders :=
  (State.requestAdvance_frame s i).2.2.1
@[simp] theorem State.requestAdvance_metering (s : State) (i : Nat) : (s.requestAdvance i).metering = s.metering :=
  (State.requestAdvance_frame s i).2.2.2.1
@[simp] theorem State.requestAdvance_films (s : State) (i : Nat) : (s.requestAdvance i).films = s.films :=
  (State.requestAdvance_frame s i).2.2.2.2.1
@[simp] theorem State.requestAdvance_calibration (s : State) (i : Nat) : (s.requestAdvance i).calibration = s.calibration :=
  (State.requestAdvance_frame s i).2.2.2.2.2.1
@[simp] theorem State.requestAdvance_exposure (s : State) (i : Nat) : (s.requestAdvance i).exposure = s.exposure :=
  (State.requestAdvance_frame s i).2.2.2.2.2.2.1
@[simp] theorem State.requestAdvance_rolls (s : State) (i : Nat) : (s.requestAdvance i).rolls = s.rolls :=
  (State.requestAdvance_frame s i).2.2.2.2.2.2.2.1
@[simp] theorem State.requestAdvance_labels (s : State) (i : Nat) : (s.requestAdvance i).labels = s.labels :=
  (State.requestAdvance_frame s i).2.2.2.2.2.2.2.2.1
@[simp] theorem State.requestAdvance_accounts (s : State) (i : Nat) : (s.requestAdvance i).accounts = s.accounts :=
  (State.requestAdvance_frame s i).2.2.2.2.2.2.2.2.2.1
@[simp] theorem State.requestAdvance_store (s : State) (i : Nat) : (s.requestAdvance i).store = s.store :=
  (State.requestAdvance_frame s i).2.2.2.2.2.2.2.2.2.2.1
@[simp] theorem State.requestAdvance_panel (s : State) (i : Nat) : (s.requestAdvance i).panel = s.panel :=
  (State.requestAdvance_frame s i).2.2.2.2.2.2.2.2.2.2.2.1
@[simp] theorem State.requestAdvance_pending (s : State) (i : Nat) : (s.requestAdvance i).pending = s.pending :=
  (State.requestAdvance_frame s i).2.2.2.2.2.2.2.2.2.2.2.2

/-! ## spoilFrame: A frame is spoiled (R14). -/

theorem State.spoilFrame_frame (s : State) (b : Bool) :
    (s.spoilFrame b).power = s.power ∧
    (s.spoilFrame b).line = s.line ∧
    (s.spoilFrame b).metering = s.metering ∧
    (s.spoilFrame b).films = s.films ∧
    (s.spoilFrame b).calibration = s.calibration ∧
    (s.spoilFrame b).exposure = s.exposure ∧
    (s.spoilFrame b).labels = s.labels ∧
    (s.spoilFrame b).panel = s.panel ∧
    (s.spoilFrame b).pending = s.pending := by
  unfold State.spoilFrame; dsimp only; (repeat' split) <;> simp

@[simp] theorem State.spoilFrame_power (s : State) (b : Bool) : (s.spoilFrame b).power = s.power :=
  (State.spoilFrame_frame s b).1
@[simp] theorem State.spoilFrame_line (s : State) (b : Bool) : (s.spoilFrame b).line = s.line :=
  (State.spoilFrame_frame s b).2.1
@[simp] theorem State.spoilFrame_metering (s : State) (b : Bool) : (s.spoilFrame b).metering = s.metering :=
  (State.spoilFrame_frame s b).2.2.1
@[simp] theorem State.spoilFrame_films (s : State) (b : Bool) : (s.spoilFrame b).films = s.films :=
  (State.spoilFrame_frame s b).2.2.2.1
@[simp] theorem State.spoilFrame_calibration (s : State) (b : Bool) : (s.spoilFrame b).calibration = s.calibration :=
  (State.spoilFrame_frame s b).2.2.2.2.1
@[simp] theorem State.spoilFrame_exposure (s : State) (b : Bool) : (s.spoilFrame b).exposure = s.exposure :=
  (State.spoilFrame_frame s b).2.2.2.2.2.1
@[simp] theorem State.spoilFrame_labels (s : State) (b : Bool) : (s.spoilFrame b).labels = s.labels :=
  (State.spoilFrame_frame s b).2.2.2.2.2.2.1
@[simp] theorem State.spoilFrame_panel (s : State) (b : Bool) : (s.spoilFrame b).panel = s.panel :=
  (State.spoilFrame_frame s b).2.2.2.2.2.2.2.1
@[simp] theorem State.spoilFrame_pending (s : State) (b : Bool) : (s.spoilFrame b).pending = s.pending :=
  (State.spoilFrame_frame s b).2.2.2.2.2.2.2.2

/-! ## abortExposure: An exposure is aborted (R72). -/

theorem State.abortExposure_frame (s : State) (b : Bool) :
    (s.abortExposure b).power = s.power ∧
    (s.abortExposure b).line = s.line ∧
    (s.abortExposure b).films = s.films ∧
    (s.abortExposure b).calibration = s.calibration ∧
    (s.abortExposure b).labels = s.labels ∧
    (s.abortExposure b).panel = s.panel ∧
    (s.abortExposure b).pending = s.pending := by
  simp [State.abortExposure]

@[simp] theorem State.abortExposure_power (s : State) (b : Bool) : (s.abortExposure b).power = s.power :=
  (State.abortExposure_frame s b).1
@[simp] theorem State.abortExposure_line (s : State) (b : Bool) : (s.abortExposure b).line = s.line :=
  (State.abortExposure_frame s b).2.1
@[simp] theorem State.abortExposure_films (s : State) (b : Bool) : (s.abortExposure b).films = s.films :=
  (State.abortExposure_frame s b).2.2.1
@[simp] theorem State.abortExposure_calibration (s : State) (b : Bool) : (s.abortExposure b).calibration = s.calibration :=
  (State.abortExposure_frame s b).2.2.2.1
@[simp] theorem State.abortExposure_labels (s : State) (b : Bool) : (s.abortExposure b).labels = s.labels :=
  (State.abortExposure_frame s b).2.2.2.2.1
@[simp] theorem State.abortExposure_panel (s : State) (b : Bool) : (s.abortExposure b).panel = s.panel :=
  (State.abortExposure_frame s b).2.2.2.2.2.1
@[simp] theorem State.abortExposure_pending (s : State) (b : Bool) : (s.abortExposure b).pending = s.pending :=
  (State.abortExposure_frame s b).2.2.2.2.2.2

/-! ## dropOrderLighting: The active order's lighting ends (R72, R73). -/

theorem State.dropOrderLighting_frame (s : State) (b : Bool) :
    (s.dropOrderLighting b).power = s.power ∧
    (s.dropOrderLighting b).line = s.line ∧
    (s.dropOrderLighting b).films = s.films ∧
    (s.dropOrderLighting b).calibration = s.calibration ∧
    (s.dropOrderLighting b).labels = s.labels ∧
    (s.dropOrderLighting b).panel = s.panel ∧
    (s.dropOrderLighting b).pending = s.pending := by
  unfold State.dropOrderLighting; split <;> simp

@[simp] theorem State.dropOrderLighting_power (s : State) (b : Bool) : (s.dropOrderLighting b).power = s.power :=
  (State.dropOrderLighting_frame s b).1
@[simp] theorem State.dropOrderLighting_line (s : State) (b : Bool) : (s.dropOrderLighting b).line = s.line :=
  (State.dropOrderLighting_frame s b).2.1
@[simp] theorem State.dropOrderLighting_films (s : State) (b : Bool) : (s.dropOrderLighting b).films = s.films :=
  (State.dropOrderLighting_frame s b).2.2.1
@[simp] theorem State.dropOrderLighting_calibration (s : State) (b : Bool) : (s.dropOrderLighting b).calibration = s.calibration :=
  (State.dropOrderLighting_frame s b).2.2.2.1
@[simp] theorem State.dropOrderLighting_labels (s : State) (b : Bool) : (s.dropOrderLighting b).labels = s.labels :=
  (State.dropOrderLighting_frame s b).2.2.2.2.1
@[simp] theorem State.dropOrderLighting_panel (s : State) (b : Bool) : (s.dropOrderLighting b).panel = s.panel :=
  (State.dropOrderLighting_frame s b).2.2.2.2.2.1
@[simp] theorem State.dropOrderLighting_pending (s : State) (b : Bool) : (s.dropOrderLighting b).pending = s.pending :=
  (State.dropOrderLighting_frame s b).2.2.2.2.2.2

/-! ## cutShort: The active order is cut short (R19, R20, R22, R23). -/

theorem State.cutShort_frame (s : State) (r : FinishReason) (b c : Bool) :
    (s.cutShort r b c).power = s.power ∧
    (s.cutShort r b c).line = s.line ∧
    (s.cutShort r b c).films = s.films ∧
    (s.cutShort r b c).calibration = s.calibration ∧
    (s.cutShort r b c).labels = s.labels ∧
    (s.cutShort r b c).panel = s.panel ∧
    (s.cutShort r b c).pending = s.pending := by
  unfold State.cutShort; split
  · simp
  · split <;> simp

@[simp] theorem State.cutShort_power (s : State) (r : FinishReason) (b c : Bool) : (s.cutShort r b c).power = s.power :=
  (State.cutShort_frame s r b c).1
@[simp] theorem State.cutShort_line (s : State) (r : FinishReason) (b c : Bool) : (s.cutShort r b c).line = s.line :=
  (State.cutShort_frame s r b c).2.1
@[simp] theorem State.cutShort_films (s : State) (r : FinishReason) (b c : Bool) : (s.cutShort r b c).films = s.films :=
  (State.cutShort_frame s r b c).2.2.1
@[simp] theorem State.cutShort_calibration (s : State) (r : FinishReason) (b c : Bool) : (s.cutShort r b c).calibration = s.calibration :=
  (State.cutShort_frame s r b c).2.2.2.1
@[simp] theorem State.cutShort_labels (s : State) (r : FinishReason) (b c : Bool) : (s.cutShort r b c).labels = s.labels :=
  (State.cutShort_frame s r b c).2.2.2.2.1
@[simp] theorem State.cutShort_panel (s : State) (r : FinishReason) (b c : Bool) : (s.cutShort r b c).panel = s.panel :=
  (State.cutShort_frame s r b c).2.2.2.2.2.1
@[simp] theorem State.cutShort_pending (s : State) (r : FinishReason) (b c : Bool) : (s.cutShort r b c).pending = s.pending :=
  (State.cutShort_frame s r b c).2.2.2.2.2.2

/-! ## beginFrame: A frame begins (R12). -/

theorem State.beginFrame_frame (s : State) (i : Nat) :
    (s.beginFrame i).power = s.power ∧
    (s.beginFrame i).line = s.line ∧
    (s.beginFrame i).metering = s.metering ∧
    (s.beginFrame i).films = s.films ∧
    (s.beginFrame i).calibration = s.calibration ∧
    (s.beginFrame i).transport = s.transport ∧
    (s.beginFrame i).rolls = s.rolls ∧
    (s.beginFrame i).labels = s.labels ∧
    (s.beginFrame i).panel = s.panel ∧
    (s.beginFrame i).pending = s.pending := by
  unfold State.beginFrame; dsimp only; (repeat' split) <;> simp

@[simp] theorem State.beginFrame_power (s : State) (i : Nat) : (s.beginFrame i).power = s.power :=
  (State.beginFrame_frame s i).1
@[simp] theorem State.beginFrame_line (s : State) (i : Nat) : (s.beginFrame i).line = s.line :=
  (State.beginFrame_frame s i).2.1
@[simp] theorem State.beginFrame_metering (s : State) (i : Nat) : (s.beginFrame i).metering = s.metering :=
  (State.beginFrame_frame s i).2.2.1
@[simp] theorem State.beginFrame_films (s : State) (i : Nat) : (s.beginFrame i).films = s.films :=
  (State.beginFrame_frame s i).2.2.2.1
@[simp] theorem State.beginFrame_calibration (s : State) (i : Nat) : (s.beginFrame i).calibration = s.calibration :=
  (State.beginFrame_frame s i).2.2.2.2.1
@[simp] theorem State.beginFrame_transport (s : State) (i : Nat) : (s.beginFrame i).transport = s.transport :=
  (State.beginFrame_frame s i).2.2.2.2.2.1
@[simp] theorem State.beginFrame_rolls (s : State) (i : Nat) : (s.beginFrame i).rolls = s.rolls :=
  (State.beginFrame_frame s i).2.2.2.2.2.2.1
@[simp] theorem State.beginFrame_labels (s : State) (i : Nat) : (s.beginFrame i).labels = s.labels :=
  (State.beginFrame_frame s i).2.2.2.2.2.2.2.1
@[simp] theorem State.beginFrame_panel (s : State) (i : Nat) : (s.beginFrame i).panel = s.panel :=
  (State.beginFrame_frame s i).2.2.2.2.2.2.2.2.1
@[simp] theorem State.beginFrame_pending (s : State) (i : Nat) : (s.beginFrame i).pending = s.pending :=
  (State.beginFrame_frame s i).2.2.2.2.2.2.2.2.2

/-! ## advanceOutcome: An advance's outcome (R16). -/

theorem State.advanceOutcome_frame (s : State) (i : Nat) (b : Bool) :
    (s.advanceOutcome i b).power = s.power ∧
    (s.advanceOutcome i b).line = s.line ∧
    (s.advanceOutcome i b).metering = s.metering ∧
    (s.advanceOutcome i b).films = s.films ∧
    (s.advanceOutcome i b).calibration = s.calibration ∧
    (s.advanceOutcome i b).transport = s.transport ∧
    (s.advanceOutcome i b).rolls = s.rolls ∧
    (s.advanceOutcome i b).labels = s.labels ∧
    (s.advanceOutcome i b).panel = s.panel ∧
    (s.advanceOutcome i b).pending = s.pending := by
  unfold State.advanceOutcome; (repeat' split) <;> simp

@[simp] theorem State.advanceOutcome_power (s : State) (i : Nat) (b : Bool) : (s.advanceOutcome i b).power = s.power :=
  (State.advanceOutcome_frame s i b).1
@[simp] theorem State.advanceOutcome_line (s : State) (i : Nat) (b : Bool) : (s.advanceOutcome i b).line = s.line :=
  (State.advanceOutcome_frame s i b).2.1
@[simp] theorem State.advanceOutcome_metering (s : State) (i : Nat) (b : Bool) : (s.advanceOutcome i b).metering = s.metering :=
  (State.advanceOutcome_frame s i b).2.2.1
@[simp] theorem State.advanceOutcome_films (s : State) (i : Nat) (b : Bool) : (s.advanceOutcome i b).films = s.films :=
  (State.advanceOutcome_frame s i b).2.2.2.1
@[simp] theorem State.advanceOutcome_calibration (s : State) (i : Nat) (b : Bool) : (s.advanceOutcome i b).calibration = s.calibration :=
  (State.advanceOutcome_frame s i b).2.2.2.2.1
@[simp] theorem State.advanceOutcome_transport (s : State) (i : Nat) (b : Bool) : (s.advanceOutcome i b).transport = s.transport :=
  (State.advanceOutcome_frame s i b).2.2.2.2.2.1
@[simp] theorem State.advanceOutcome_rolls (s : State) (i : Nat) (b : Bool) : (s.advanceOutcome i b).rolls = s.rolls :=
  (State.advanceOutcome_frame s i b).2.2.2.2.2.2.1
@[simp] theorem State.advanceOutcome_labels (s : State) (i : Nat) (b : Bool) : (s.advanceOutcome i b).labels = s.labels :=
  (State.advanceOutcome_frame s i b).2.2.2.2.2.2.2.1
@[simp] theorem State.advanceOutcome_panel (s : State) (i : Nat) (b : Bool) : (s.advanceOutcome i b).panel = s.panel :=
  (State.advanceOutcome_frame s i b).2.2.2.2.2.2.2.2.1
@[simp] theorem State.advanceOutcome_pending (s : State) (i : Nat) (b : Bool) : (s.advanceOutcome i b).pending = s.pending :=
  (State.advanceOutcome_frame s i b).2.2.2.2.2.2.2.2.2

/-! ## completeExposure: An exposure completes (R13). -/

theorem State.completeExposure_frame (s : State) :
    (s.completeExposure).power = s.power ∧
    (s.completeExposure).line = s.line ∧
    (s.completeExposure).metering = s.metering ∧
    (s.completeExposure).films = s.films ∧
    (s.completeExposure).calibration = s.calibration ∧
    (s.completeExposure).labels = s.labels ∧
    (s.completeExposure).panel = s.panel ∧
    (s.completeExposure).pending = s.pending := by
  unfold State.completeExposure; dsimp only; (repeat' split) <;> simp

@[simp] theorem State.completeExposure_power (s : State) : (s.completeExposure).power = s.power :=
  (State.completeExposure_frame s).1
@[simp] theorem State.completeExposure_line (s : State) : (s.completeExposure).line = s.line :=
  (State.completeExposure_frame s).2.1
@[simp] theorem State.completeExposure_metering (s : State) : (s.completeExposure).metering = s.metering :=
  (State.completeExposure_frame s).2.2.1
@[simp] theorem State.completeExposure_films (s : State) : (s.completeExposure).films = s.films :=
  (State.completeExposure_frame s).2.2.2.1
@[simp] theorem State.completeExposure_calibration (s : State) : (s.completeExposure).calibration = s.calibration :=
  (State.completeExposure_frame s).2.2.2.2.1
@[simp] theorem State.completeExposure_labels (s : State) : (s.completeExposure).labels = s.labels :=
  (State.completeExposure_frame s).2.2.2.2.2.1
@[simp] theorem State.completeExposure_panel (s : State) : (s.completeExposure).panel = s.panel :=
  (State.completeExposure_frame s).2.2.2.2.2.2.1
@[simp] theorem State.completeExposure_pending (s : State) : (s.completeExposure).pending = s.pending :=
  (State.completeExposure_frame s).2.2.2.2.2.2.2

/-! ## planOrder: A plan is made and the order enters EXPOSING (R11). -/

theorem State.planOrder_frame (s : State) (o : Order) (a : Averages) :
    (s.planOrder o a).power = s.power ∧
    (s.planOrder o a).line = s.line ∧
    (s.planOrder o a).notices = s.notices ∧
    (s.planOrder o a).metering = s.metering ∧
    (s.planOrder o a).films = s.films ∧
    (s.planOrder o a).calibration = s.calibration ∧
    (s.planOrder o a).exposure = s.exposure ∧
    (s.planOrder o a).transport = s.transport ∧
    (s.planOrder o a).rolls = s.rolls ∧
    (s.planOrder o a).labels = s.labels ∧
    (s.planOrder o a).accounts = s.accounts ∧
    (s.planOrder o a).store = s.store ∧
    (s.planOrder o a).panel = s.panel ∧
    (s.planOrder o a).pending = s.pending := by
  unfold State.planOrder; split <;> simp

@[simp] theorem State.planOrder_power (s : State) (o : Order) (a : Averages) :
    (s.planOrder o a).power = s.power := (State.planOrder_frame s o a).1
@[simp] theorem State.planOrder_line (s : State) (o : Order) (a : Averages) :
    (s.planOrder o a).line = s.line := (State.planOrder_frame s o a).2.1
@[simp] theorem State.planOrder_notices (s : State) (o : Order) (a : Averages) :
    (s.planOrder o a).notices = s.notices := (State.planOrder_frame s o a).2.2.1
@[simp] theorem State.planOrder_metering (s : State) (o : Order) (a : Averages) :
    (s.planOrder o a).metering = s.metering := (State.planOrder_frame s o a).2.2.2.1
@[simp] theorem State.planOrder_films (s : State) (o : Order) (a : Averages) :
    (s.planOrder o a).films = s.films := (State.planOrder_frame s o a).2.2.2.2.1
@[simp] theorem State.planOrder_calibration (s : State) (o : Order) (a : Averages) :
    (s.planOrder o a).calibration = s.calibration := (State.planOrder_frame s o a).2.2.2.2.2.1
@[simp] theorem State.planOrder_exposure (s : State) (o : Order) (a : Averages) :
    (s.planOrder o a).exposure = s.exposure := (State.planOrder_frame s o a).2.2.2.2.2.2.1
@[simp] theorem State.planOrder_transport (s : State) (o : Order) (a : Averages) :
    (s.planOrder o a).transport = s.transport := (State.planOrder_frame s o a).2.2.2.2.2.2.2.1
@[simp] theorem State.planOrder_rolls (s : State) (o : Order) (a : Averages) :
    (s.planOrder o a).rolls = s.rolls := (State.planOrder_frame s o a).2.2.2.2.2.2.2.2.1
@[simp] theorem State.planOrder_labels (s : State) (o : Order) (a : Averages) :
    (s.planOrder o a).labels = s.labels := (State.planOrder_frame s o a).2.2.2.2.2.2.2.2.2.1
@[simp] theorem State.planOrder_accounts (s : State) (o : Order) (a : Averages) :
    (s.planOrder o a).accounts = s.accounts := (State.planOrder_frame s o a).2.2.2.2.2.2.2.2.2.2.1
@[simp] theorem State.planOrder_store (s : State) (o : Order) (a : Averages) :
    (s.planOrder o a).store = s.store := (State.planOrder_frame s o a).2.2.2.2.2.2.2.2.2.2.2.1
@[simp] theorem State.planOrder_panel (s : State) (o : Order) (a : Averages) :
    (s.planOrder o a).panel = s.panel := (State.planOrder_frame s o a).2.2.2.2.2.2.2.2.2.2.2.2.1
@[simp] theorem State.planOrder_pending (s : State) (o : Order) (a : Averages) :
    (s.planOrder o a).pending = s.pending := (State.planOrder_frame s o a).2.2.2.2.2.2.2.2.2.2.2.2.2

/-! ## takeStop: A Stop (R20). -/

theorem State.takeStop_frame (s : State) :
    (s.takeStop).power = s.power ∧
    (s.takeStop).line = s.line ∧
    (s.takeStop).films = s.films ∧
    (s.takeStop).calibration = s.calibration ∧
    (s.takeStop).labels = s.labels ∧
    (s.takeStop).panel = s.panel ∧
    (s.takeStop).pending = s.pending := by
  simp [State.takeStop]

@[simp] theorem State.takeStop_power (s : State) : (s.takeStop).power = s.power := (State.takeStop_frame s).1
@[simp] theorem State.takeStop_line (s : State) : (s.takeStop).line = s.line := (State.takeStop_frame s).2.1
@[simp] theorem State.takeStop_films (s : State) : (s.takeStop).films = s.films := (State.takeStop_frame s).2.2.1
@[simp] theorem State.takeStop_calibration (s : State) : (s.takeStop).calibration = s.calibration :=
  (State.takeStop_frame s).2.2.2.1
@[simp] theorem State.takeStop_labels (s : State) : (s.takeStop).labels = s.labels :=
  (State.takeStop_frame s).2.2.2.2.1
@[simp] theorem State.takeStop_panel (s : State) : (s.takeStop).panel = s.panel :=
  (State.takeStop_frame s).2.2.2.2.2.1
@[simp] theorem State.takeStop_pending (s : State) : (s.takeStop).pending = s.pending :=
  (State.takeStop_frame s).2.2.2.2.2.2

/-! ## beginOrder: A Start is taken (R10). -/

theorem State.beginOrder_frame (s : State) (i : Nat) :
    (s.beginOrder i).power = s.power ∧
    (s.beginOrder i).line = s.line ∧
    (s.beginOrder i).metering = s.metering ∧
    (s.beginOrder i).films = s.films ∧
    (s.beginOrder i).calibration = s.calibration ∧
    (s.beginOrder i).transport = s.transport ∧
    (s.beginOrder i).rolls = s.rolls ∧
    (s.beginOrder i).labels = s.labels ∧
    (s.beginOrder i).panel = s.panel ∧
    (s.beginOrder i).pending = s.pending := by
  unfold State.beginOrder; dsimp only; (repeat' split) <;> simp

@[simp] theorem State.beginOrder_power (s : State) (i : Nat) : (s.beginOrder i).power = s.power :=
  (State.beginOrder_frame s i).1
@[simp] theorem State.beginOrder_line (s : State) (i : Nat) : (s.beginOrder i).line = s.line :=
  (State.beginOrder_frame s i).2.1
@[simp] theorem State.beginOrder_metering (s : State) (i : Nat) : (s.beginOrder i).metering = s.metering :=
  (State.beginOrder_frame s i).2.2.1
@[simp] theorem State.beginOrder_films (s : State) (i : Nat) : (s.beginOrder i).films = s.films :=
  (State.beginOrder_frame s i).2.2.2.1
@[simp] theorem State.beginOrder_calibration (s : State) (i : Nat) : (s.beginOrder i).calibration = s.calibration :=
  (State.beginOrder_frame s i).2.2.2.2.1
@[simp] theorem State.beginOrder_transport (s : State) (i : Nat) : (s.beginOrder i).transport = s.transport :=
  (State.beginOrder_frame s i).2.2.2.2.2.1
@[simp] theorem State.beginOrder_rolls (s : State) (i : Nat) : (s.beginOrder i).rolls = s.rolls :=
  (State.beginOrder_frame s i).2.2.2.2.2.2.1
@[simp] theorem State.beginOrder_labels (s : State) (i : Nat) : (s.beginOrder i).labels = s.labels :=
  (State.beginOrder_frame s i).2.2.2.2.2.2.2.1
@[simp] theorem State.beginOrder_panel (s : State) (i : Nat) : (s.beginOrder i).panel = s.panel :=
  (State.beginOrder_frame s i).2.2.2.2.2.2.2.2.1
@[simp] theorem State.beginOrder_pending (s : State) (i : Nat) : (s.beginOrder i).pending = s.pending :=
  (State.beginOrder_frame s i).2.2.2.2.2.2.2.2.2

/-! ## beginPrinting: Printing begins (R122). -/

theorem State.beginPrinting_frame (s : State) :
    (s.beginPrinting).power = s.power ∧
    (s.beginPrinting).line = s.line ∧
    (s.beginPrinting).notices = s.notices ∧
    (s.beginPrinting).orders = s.orders ∧
    (s.beginPrinting).metering = s.metering ∧
    (s.beginPrinting).films = s.films ∧
    (s.beginPrinting).calibration = s.calibration ∧
    (s.beginPrinting).exposure = s.exposure ∧
    (s.beginPrinting).transport = s.transport ∧
    (s.beginPrinting).rolls = s.rolls ∧
    (s.beginPrinting).accounts = s.accounts ∧
    (s.beginPrinting).store = s.store ∧
    (s.beginPrinting).panel = s.panel ∧
    (s.beginPrinting).pending = s.pending := by
  unfold State.beginPrinting; split <;> simp

@[simp] theorem State.beginPrinting_power (s : State) : (s.beginPrinting).power = s.power :=
  (State.beginPrinting_frame s).1
@[simp] theorem State.beginPrinting_line (s : State) : (s.beginPrinting).line = s.line :=
  (State.beginPrinting_frame s).2.1
@[simp] theorem State.beginPrinting_notices (s : State) : (s.beginPrinting).notices = s.notices :=
  (State.beginPrinting_frame s).2.2.1
@[simp] theorem State.beginPrinting_orders (s : State) : (s.beginPrinting).orders = s.orders :=
  (State.beginPrinting_frame s).2.2.2.1
@[simp] theorem State.beginPrinting_metering (s : State) : (s.beginPrinting).metering = s.metering :=
  (State.beginPrinting_frame s).2.2.2.2.1
@[simp] theorem State.beginPrinting_films (s : State) : (s.beginPrinting).films = s.films :=
  (State.beginPrinting_frame s).2.2.2.2.2.1
@[simp] theorem State.beginPrinting_calibration (s : State) : (s.beginPrinting).calibration = s.calibration :=
  (State.beginPrinting_frame s).2.2.2.2.2.2.1
@[simp] theorem State.beginPrinting_exposure (s : State) : (s.beginPrinting).exposure = s.exposure :=
  (State.beginPrinting_frame s).2.2.2.2.2.2.2.1
@[simp] theorem State.beginPrinting_transport (s : State) : (s.beginPrinting).transport = s.transport :=
  (State.beginPrinting_frame s).2.2.2.2.2.2.2.2.1
@[simp] theorem State.beginPrinting_rolls (s : State) : (s.beginPrinting).rolls = s.rolls :=
  (State.beginPrinting_frame s).2.2.2.2.2.2.2.2.2.1
@[simp] theorem State.beginPrinting_accounts (s : State) : (s.beginPrinting).accounts = s.accounts :=
  (State.beginPrinting_frame s).2.2.2.2.2.2.2.2.2.2.1
@[simp] theorem State.beginPrinting_store (s : State) : (s.beginPrinting).store = s.store :=
  (State.beginPrinting_frame s).2.2.2.2.2.2.2.2.2.2.2.1
@[simp] theorem State.beginPrinting_panel (s : State) : (s.beginPrinting).panel = s.panel :=
  (State.beginPrinting_frame s).2.2.2.2.2.2.2.2.2.2.2.2.1
@[simp] theorem State.beginPrinting_pending (s : State) : (s.beginPrinting).pending = s.pending :=
  (State.beginPrinting_frame s).2.2.2.2.2.2.2.2.2.2.2.2.2

/-! ## printerFails: A printer alarm (R128, R129, R131, R132). -/

theorem State.printerFails_frame (s : State) (p : Printer) :
    (s.printerFails p).power = s.power ∧
    (s.printerFails p).line = s.line ∧
    (s.printerFails p).orders = s.orders ∧
    (s.printerFails p).metering = s.metering ∧
    (s.printerFails p).films = s.films ∧
    (s.printerFails p).calibration = s.calibration ∧
    (s.printerFails p).exposure = s.exposure ∧
    (s.printerFails p).transport = s.transport ∧
    (s.printerFails p).rolls = s.rolls ∧
    (s.printerFails p).accounts = s.accounts ∧
    (s.printerFails p).store = s.store ∧
    (s.printerFails p).panel = s.panel ∧
    (s.printerFails p).pending = s.pending := by
  unfold State.printerFails; split <;> simp

@[simp] theorem State.printerFails_power (s : State) (p : Printer) : (s.printerFails p).power = s.power :=
  (State.printerFails_frame s p).1
@[simp] theorem State.printerFails_line (s : State) (p : Printer) : (s.printerFails p).line = s.line :=
  (State.printerFails_frame s p).2.1
@[simp] theorem State.printerFails_orders (s : State) (p : Printer) : (s.printerFails p).orders = s.orders :=
  (State.printerFails_frame s p).2.2.1
@[simp] theorem State.printerFails_metering (s : State) (p : Printer) : (s.printerFails p).metering = s.metering :=
  (State.printerFails_frame s p).2.2.2.1
@[simp] theorem State.printerFails_films (s : State) (p : Printer) : (s.printerFails p).films = s.films :=
  (State.printerFails_frame s p).2.2.2.2.1
@[simp] theorem State.printerFails_calibration (s : State) (p : Printer) : (s.printerFails p).calibration = s.calibration :=
  (State.printerFails_frame s p).2.2.2.2.2.1
@[simp] theorem State.printerFails_exposure (s : State) (p : Printer) : (s.printerFails p).exposure = s.exposure :=
  (State.printerFails_frame s p).2.2.2.2.2.2.1
@[simp] theorem State.printerFails_transport (s : State) (p : Printer) : (s.printerFails p).transport = s.transport :=
  (State.printerFails_frame s p).2.2.2.2.2.2.2.1
@[simp] theorem State.printerFails_rolls (s : State) (p : Printer) : (s.printerFails p).rolls = s.rolls :=
  (State.printerFails_frame s p).2.2.2.2.2.2.2.2.1
@[simp] theorem State.printerFails_accounts (s : State) (p : Printer) : (s.printerFails p).accounts = s.accounts :=
  (State.printerFails_frame s p).2.2.2.2.2.2.2.2.2.1
@[simp] theorem State.printerFails_store (s : State) (p : Printer) : (s.printerFails p).store = s.store :=
  (State.printerFails_frame s p).2.2.2.2.2.2.2.2.2.2.1
@[simp] theorem State.printerFails_panel (s : State) (p : Printer) : (s.printerFails p).panel = s.panel :=
  (State.printerFails_frame s p).2.2.2.2.2.2.2.2.2.2.2.1
@[simp] theorem State.printerFails_pending (s : State) (p : Printer) : (s.printerFails p).pending = s.pending :=
  (State.printerFails_frame s p).2.2.2.2.2.2.2.2.2.2.2.2

end Sys2Proof.Machine
end

