-- ==== Sys2Proof/Laws/Labels.lean ====
section
/-! SUPPORT. What the operations of the printer handshake can do: a look at PRN_BUSY, the beginning of a label, and a change
of the printer state. -/

namespace Sys2Proof.Machine

/-- A look changes nothing unless a byte awaits its strobe; then it is counted, and the byte is placed and strobed where
PRN_BUSY is low. -/
theorem LabelUnit.offer_cases (l : LabelUnit) :
    (l.offer = l ∧ ∀ label index, l.printer = .sending label index → l.strobed = true) ∨
    (∃ label index, l.printer = .sending label index ∧ l.strobed = false ∧ Config.busyLow l.looks = false ∧
      l.offer = { l with looks := l.looks + 1 }) ∨
    (∃ label index, l.printer = .sending label index ∧ l.strobed = false ∧ Config.busyLow l.looks = true ∧
      l.offer = { l with looks := l.looks + 1, wait := 0, dataLines := label.getD index 0, strobed := true }) := by
  cases hp : l.printer with
  | sending label index =>
    cases hs : l.strobed with
    | true => exact .inl ⟨by simp [offer, hp, hs], fun _ _ _ => rfl⟩
    | false =>
      cases hb : Config.busyLow l.looks with
      | true => exact .inr (.inr ⟨label, index, rfl, rfl, rfl, by simp [offer, hp, hs, hb]⟩)
      | false => exact .inr (.inl ⟨label, index, rfl, rfl, rfl, by cases l; simp_all [offer]⟩)
  | idle | feeding | stockOut | faulted => exact .inl ⟨by simp [offer, hp], fun _ _ h => by cases h⟩

/-- The beginning of a label: one look, counted, tells whether its first byte is placed and strobed at once. -/
theorem LabelUnit.beginLabel_eq (l : LabelUnit) (label : List Byte) :
    l.beginLabel label =
      { l with
        printer := .sending label 0, wait := 0, looks := l.looks + 1, strobed := Config.busyLow l.looks
        dataLines := if Config.busyLow l.looks then label.getD 0 0 else 0 } := by
  cases h : Config.busyLow l.looks <;> simp [beginLabel, offer, h]

@[simp] theorem LabelUnit.offer_mark (l : LabelUnit) : l.offer.mark = l.mark := by
  rcases l.offer_cases with h | ⟨_, _, _, _, _, h⟩ | ⟨_, _, _, _, _, h⟩ <;> simp [h]
@[simp] theorem LabelUnit.offer_locked (l : LabelUnit) : l.offer.locked = l.locked := by
  rcases l.offer_cases with h | ⟨_, _, _, _, _, h⟩ | ⟨_, _, _, _, _, h⟩ <;> simp [h]
@[simp] theorem LabelUnit.offer_queue (l : LabelUnit) : l.offer.queue = l.queue := by
  rcases l.offer_cases with h | ⟨_, _, _, _, _, h⟩ | ⟨_, _, _, _, _, h⟩ <;> simp [h]
@[simp] theorem LabelUnit.offer_printer (l : LabelUnit) : l.offer.printer = l.printer := by
  rcases l.offer_cases with h | ⟨_, _, _, _, _, h⟩ | ⟨_, _, _, _, _, h⟩ <;> simp [h]
@[simp] theorem LabelUnit.offer_stockHigh (l : LabelUnit) : l.offer.stockHigh = l.stockHigh := by
  rcases l.offer_cases with h | ⟨_, _, _, _, _, h⟩ | ⟨_, _, _, _, _, h⟩ <;> simp [h]
@[simp] theorem LabelUnit.offer_faultHigh (l : LabelUnit) : l.offer.faultHigh = l.faultHigh := by
  rcases l.offer_cases with h | ⟨_, _, _, _, _, h⟩ | ⟨_, _, _, _, _, h⟩ <;> simp [h]

@[simp] theorem LabelUnit.beginLabel_mark (l : LabelUnit) (b : List Byte) : (l.beginLabel b).mark = l.mark := by
  simp [beginLabel_eq]
@[simp] theorem LabelUnit.beginLabel_locked (l : LabelUnit) (b : List Byte) : (l.beginLabel b).locked = l.locked := by
  simp [beginLabel_eq]
@[simp] theorem LabelUnit.beginLabel_queue (l : LabelUnit) (b : List Byte) : (l.beginLabel b).queue = l.queue := by
  simp [beginLabel_eq]
@[simp] theorem LabelUnit.beginLabel_printer (l : LabelUnit) (b : List Byte) :
    (l.beginLabel b).printer = .sending b 0 := by simp [beginLabel_eq]

@[simp] theorem LabelUnit.enter_mark (l : LabelUnit) (p : Printer) : (l.enter p).mark = l.mark := rfl
@[simp] theorem LabelUnit.enter_locked (l : LabelUnit) (p : Printer) : (l.enter p).locked = l.locked := rfl
@[simp] theorem LabelUnit.enter_queue (l : LabelUnit) (p : Printer) : (l.enter p).queue = l.queue := rfl
@[simp] theorem LabelUnit.enter_printer (l : LabelUnit) (p : Printer) : (l.enter p).printer = p := rfl

/-- Entering a state and beginning a label at once is beginning the label. -/
@[simp] theorem LabelUnit.enter_beginLabel (l : LabelUnit) (p : Printer) (b : List Byte) :
    (l.enter p).beginLabel b = l.beginLabel b := by simp [beginLabel_eq, enter]

/-- A label is composed from the mark, the orders and the rolls alone (R123 to R126). -/
theorem State.composeLabel_congr (s t : State) (e : LabelEntry) (hm : t.labels.mark = s.labels.mark)
    (ho : t.orders = s.orders) (hr : t.rolls = s.rolls) : t.composeLabel e = s.composeLabel e := by
  simp [composeLabel, findOrder, findRoll, hm, ho, hr]

end Sys2Proof.Machine
end

