-- ==== Sys2Proof/Laws/Meetings.lean ====
section
/-! SUPPORT. What the operations at the end of an order's pass can do: whether a cause waits, whether the first frame begins,
and when a frame not yet begun begins. -/

namespace Sys2Proof.Machine

/-! ## Causes that wait -/

/-- A waiting command has its own meaning, but for the end of a settle and of an order's pass. -/
theorem whileWaiting_eq (c : Instr) (s : State) :
    (whileWaiting c s = some (exec c s) ∧ c ≠ .settleEnd ∧ ∀ s1 s2 s3 s4, c ≠ .orderPassEnd s1 s2 s3 s4) ∨
    (whileWaiting c s = none ∧ (c = .settleEnd ∨ ∃ s1 s2 s3 s4, c = .orderPassEnd s1 s2 s3 s4)) := by
  cases c <;> first
    | exact .inl ⟨rfl, by simp, by simp⟩
    | exact .inr ⟨rfl, by simp⟩

/-- The rows that can bring a cause. -/
theorem bringsCause_iff (c : Instr) : bringsCause c = true ↔
    c = .gateChange ∨ c = .magazineRemoval ∨ c = .stopPress ∨ c = .broadcastStop ∨ c = .broadcastRestart ∨
      c = .replyEnd ∨ (∃ byte, c = .dataCharacter byte) ∨ (∃ body, c = .stop body) ∨ ∃ body, c = .cancelOrder body := by
  cases c <;> simp [bringsCause]

/-- With no command left, what has met the end stands. -/
@[simp] theorem causeMet_nil (received sent : Bool) (met : Meeting) (s : State) :
    causeMet received sent met [] s = met := rfl

/-- A command that falls later ends the look. -/
theorem causeMet_of_later (received sent : Bool) (met : Meeting) (c : Instr) (rest : List Instr) (s : State)
    (h : tellsTime c s = true ∨ (received = true ∧ receives c = true) ∨ (sent = true ∧ sends c = true)) :
    causeMet received sent met (c :: rest) s = met := by
  have hb : (tellsTime c s || (received && receives c) || (sent && sends c)) = true := by
    rcases h with h | ⟨h, h'⟩ | ⟨h, h'⟩ <;> simp [*]
  simp [causeMet, hb]

/-- A command that falls at the moment: one that leaves the active order's course hides nothing behind it, and the first
that changes it is a cause, or ends the look. -/
theorem causeMet_of_moment (received sent : Bool) (met : Meeting) (c : Instr) (rest : List Instr) (s t : State)
    (h : tellsTime c s = false) (hr : received = false ∨ receives c = false) (hs : sent = false ∨ sends c = false)
    (hc : whileWaiting c s = some (.next t)) : causeMet received sent met (c :: rest) s =
      if t.course = s.course then causeMet (received || receives c) (sent || sends c) met rest t
      else if bringsCause c = false then met
      else if t.activeOrder.isSome then causeMet (received || receives c) (sent || sends c) .cancel rest t
      else .ending := by
  have hb : (tellsTime c s || (received && receives c) || (sent && sends c)) = false := by
    rcases hr with hr | hr <;> rcases hs with hs | hs <;> simp [h, hr, hs]
  simp [causeMet, hb, hc]

/-! ## The first frame -/

/-- What the end of a pass with an order in EXPOSING does with its first frame. -/
theorem State.beginFirstFrame_of_exposing (s : State) (o : Order) (ha : s.activeOrder = some o)
    (he : o.state = .exposing) : s.beginFirstFrame =
      match causeMet false false .nothing s.pending s with
      | .nothing => s.beginFrame o.id
      | .cancel => s.withExposure { s.exposure with frameWaits := true }
      | .ending => s := by
  simp only [State.beginFirstFrame, ha, he]
  rfl

/-- A Cancel for an order in EXPOSING sets the mark, and begins a first frame that waits for it. -/
theorem State.markCancel_cases (s : State) (o : Order) :
    let marked := s.mapOrder o.id fun p => { p with cancelRequested := true }
    (s.markCancel o = marked ∧
      ¬ (s.exposure.frameWaits = true ∧ s.exposure.state = .idle ∧ s.transport.state = .ready)) ∨
    (s.exposure.frameWaits = true ∧ s.exposure.state = .idle ∧ s.transport.state = .ready ∧
      s.markCancel o = (marked.withExposure { s.exposure with frameWaits := false }).beginFrame o.id) := by
  by_cases h : s.exposure.frameWaits = true ∧ s.exposure.state = .idle ∧ s.transport.state = .ready
  · exact .inr ⟨h.1, h.2.1, h.2.2, by simp [State.markCancel, h]⟩
  · refine .inl ⟨?_, h⟩
    simp only [State.markCancel]
    split
    · rename_i hx; simp [and_assoc] at hx; exact absurd hx h
    · rfl

end Sys2Proof.Machine
end

