-- ==== Sys2Proof/Tests/Slice0.lean ====
section
/-! SUPPORT. Tests: a smoke test of the well-formedness checks, the worked examples of the manual's chapters, and for each
statement that has hypotheses a witness that meets them. Expected values are the manual's own, or worked out by hand from
its rules. A worked example is cited by its section. -/

namespace Sys2Proof.Tests

open Sys2Proof.Machine

/-! ## Well-formed commands: one ill-formed term for each check, and its bound met -/

/-- A conversion of a voltage, in thousandths of the reference. -/
def reading (v : Nat) : Conversion := { voltage := v, vref := 1024 }

/-- A scan that reads the four values given. -/
def scan (r a b c : Nat) : Scan := { ref := reading r, red := reading a, green := reading b, blue := reading c }

/-- A converter without its reference. -/
def noReference : Conversion := { voltage := 1, vref := 0 }

theorem test_wf_body_of_64 : (Instr.submitOrder (List.replicate 64 0)).wf = false := by decide
theorem test_wf_body_of_63 : (Instr.submitOrder (List.replicate 63 0)).wf = true := by decide
theorem test_wf_watch_reference : (Instr.watchGroupEnd (reading 1) (reading 1) (reading 1) noReference).wf = false := by decide
theorem test_wf_pass_reference :
    (Instr.orderPassEnd (scan 1 1 1 1) (scan 1 1 1 1) (scan 1 1 1 1) { scan 1 1 1 1 with blue := noReference }).wf = false ∧
    (Instr.testPassEnd (scan 1 1 1 1) (scan 1 1 1 1) { scan 1 1 1 1 with green := noReference } (scan 1 1 1 1)).wf = false := by
  decide
theorem test_wf_stage_reference :
    (Instr.calibrationStageEnd { scan 1 1 1 1 with ref := noReference } (scan 1 1 1 1) (scan 1 1 1 1) (scan 1 1 1 1)).wf
      = false ∧
    (Instr.calibrationStageEnd (scan 1 1 1 1) { scan 1 1 1 1 with red := noReference } (scan 1 1 1 1) (scan 1 1 1 1)).wf
      = false := by decide
theorem test_wf_torn_of_25 : (Instr.powerLoss (List.replicate 25 0)).wf = false := by decide

/-! ## States -/

/-- Department account 412 with the hold of one queued order. -/
def account : Account :=
  { number := 412, suspended := false, allowance := 10000, warn := 500, spent := 1000, held := 2340, damaged := false }

/-- Order 720: two offsets, two copies of each, with labels. -/
def order : Order :=
  { id := 720, account := 412, filmKind := 1, catalogue := [65, 49], title := [66], offsets := [-8, 8], copies := 2
    labels := true, setupFee := 300, frameRate := 450, labelRate := 60, setupHold := 300, frameHold := 1800
    labelHold := 240, state := .queued, cancelRequested := false, nextStep := 1, nextCopy := 1, exposed := 0
    spoiled := 0, plan := none, taken := [], labelsOutstanding := 4 }

/-- A film kind. -/
def film : FilmKind := { tref := 250, c := 3, wr := 1, wg := 2, wb := 1, defaultFrames := 36 }

/-- A calibrated stand. -/
def calibrated : StandCalibration :=
  { StandCalibration.default with refCal := 900, baseRed := 700, baseGreen := 800, baseBlue := 600 }

/-- A plan for the order's two offsets. -/
def plan : List PlanEntry :=
  [{ offset := -8, stop := 20, step := 0, time := 500, flags := .clear, heat := 750 },
   { offset := 8, stop := 36, step := 0, time := 2000, flags := .clear, heat := 2250 }]

/-- Roll 88 in the camera. -/
def roll : Roll :=
  { number := 88, filmKind := 1, declared := 12, usable := 12, current := 1, state := .inCamera
    frames := List.replicate 12 .blank }

/-- A stand at work: mark, rates, account, film kind, calibration, a slide, a roll at frame 1, and the order queued. -/
def stand : State :=
  { State.reset with
    orders := { table := [order], active := none }
    films := [none, some film, none, none]
    calibration := calibrated
    exposure := { ExposureUnit.reset with gate := { level := true, reading := true, count := none } }
    transport := { TransportUnit.reset with
      state := .ready, loadedKind := some 1, roll := some 88, currentFrame := 1, detect1 := true, detect2 := true }
    rolls := [roll]
    labels := { LabelUnit.reset with mark := some [77], locked := true }
    accounts := { AccountTable.reset with
      slots := some account :: List.replicate 31 none
      rates := some { setup := 300, frame0 := 400, frame1 := 450, frame2 := 500, frame3 := 550, label := 60 } } }

/-- The stand with its order changed and, when it is active, marked. -/
def standWith (o : Order) : State :=
  { stand with orders := { table := [o], active := if o.state.isActive then some o.id else none } }

/-- The stand with the lamp lit at a step for a purpose. -/
def lighted (s : State) (u : UnitState) (lamp : Lamp) (p : Purpose) (m : MeterState) : State :=
  { s with
    exposure := { s.exposure with
      state := u, lamp := lamp, levelCode := 255, lampEnable := true, shutterOpen := u = .expose, purpose := some p
      litTime := 250 }
    metering := { s.metering with state := m } }

/-- A stand that settles for, or makes, the order's pass. -/
def passing (u : UnitState) (lamp : Lamp) (m : MeterState) : State :=
  lighted (standWith { order with state := .metering }) u lamp .orderPass m

/-- A stand that exposes a frame of the order. -/
def exposing (u : UnitState) (lamp : Lamp) (m : MeterState) : State :=
  lighted (standWith { order with state := .exposing, plan := some plan }) u lamp (.exposure 0 500) m

/-- The state an outcome leaves. -/
def after (o : Host.Outcome State Fault Refusal) : State :=
  match o with
  | .next t => t
  | _ => State.reset

/-- The reply fixed for the request in service. -/
def reply (o : Host.Outcome State Fault Refusal) : Option Service := (after o).line.inService

/-! ## Worked examples -/

/-- The Submit Order of 12.6 with a title of `t` characters. -/
def submit720 (t : Nat) : List Byte :=
  [2, 208, 1, 156, 1, 2, 1, 2, 248, 8, 10, 65, 82, 67, 45, 49, 49, 50, 51, 45, 66, BitVec.ofNat 8 t] ++ List.replicate t 84

/-- Ready for an order on account 412: no order yet, 50000 allowed. -/
def admitting : State :=
  { stand with
    orders := .reset
    accounts := { stand.accounts with
      slots := some { account with allowance := 50000, warn := 5000, spent := 0, held := 0 } :: List.replicate 31 none } }

/-- 12.6: 54 bytes for a title of 32; the offsets 248 and 8 are -8 and +8. -/
theorem test_submit_order_720 :
    (submit720 32).length = 54 ∧ (reply (exec (.submitOrder (submit720 32)) admitting)).map Service.result = some .done ∧
    (after (exec (.submitOrder (submit720 32)) admitting)).orders.table.map Order.offsets = [[-8, 8]] := by decide

/-- 12.6: a title of 33 is OUT_OF_RANGE, and one that ends a byte short BAD_LENGTH. -/
theorem test_submit_order_title_of_33 :
    (reply (exec (.submitOrder (submit720 33)) admitting)).map Service.result = some .outOfRange ∧
    (reply (exec (.submitOrder ((submit720 33).take 54)) admitting)).map Service.result = some .badLength := by decide

/-- 1.7: Start passes over the order of another kind and takes the first of the loaded one. -/
theorem test_start_passes_over_other_kinds :
    (after (exec .startPress { stand with
      panel := { stand.panel with start := ⟨true, false, some 30⟩ }
      orders := { table := [{ order with id := 702, filmKind := 2 }, { order with id := 701 }], active := none } })).orders.active
      = some 701 := by decide

/-- 1.7, the Stop of order 703: no frame exposed, so spent stays and 1320 leave held. -/
theorem test_stop_press_of_703 :
    (after (exec .stopPress { exposing .expose (.lit 0) .watch with
      panel := { stand.panel with stop := ⟨true, false, some 30⟩ }
      orders := { table := [{ order with
        id := 703, offsets := [0, 4], copies := 1, frameHold := 900, labelHold := 120, state := .exposing, plan := some plan
        labelsOutstanding := 2 }], active := some 703 }
      accounts := { stand.accounts with slots :=
        [some { account with allowance := 50000, spent := 3000, held := 2480 }] } })).accounts.slots
      = [some { account with allowance := 50000, spent := 3000, held := 1160 }] := by decide

/-- 1.7: the first exposure posts the setup fee and one frame rate. -/
theorem test_first_exposure_posts_750 :
    (after (exec .exposureTimeEnd (exposing .expose (.lit 0) .watch))).accounts.slots.head?
      = some (some { account with spent := 1750, held := 1590 }) := by decide

/-- 1.7: Cancel Order of a QUEUED order releases its whole hold. -/
theorem test_cancel_queued_order :
    (after (exec (.cancelOrder [2, 208]) stand)).accounts.slots.head? = some (some { account with held := 0 }) := by decide

/-- 1.7: Retire Order is WRONG_STATE while labels are outstanding. -/
theorem test_retire_owing_labels :
    (reply (exec (.retireOrder [2, 208]) (standWith { order with
      state := .done, setupHold := 0, frameHold := 0, exposed := 4 }))).map Service.result = some .wrongState := by decide

/-- The stand of 2.9 and 3.10. -/
def faded : StandCalibration :=
  { StandCalibration.default with tmax := 3000, refCal := 960, baseRed := 1000, baseGreen := 980, baseBlue := 940 }

/-- 2.8: the averages of the worked pass. -/
theorem test_worked_pass_averages :
    passAverages (scan 899 298 200 151) (scan 901 301 199 149) (scan 900 300 201 150) (scan 900 302 200 151) =
      { ref := 900, red := 300, green := 200, blue := 150 } ∧ ageingTerm faded 900 = 1 := by decide

/-- 2.8: a group average of 224 is a lamp failure at the threshold of 225, and 225 is not. -/
theorem test_watch_threshold_225 :
    (after (exec (.watchGroupEnd (reading 224) (reading 224) (reading 224) (reading 224))
      { exposing .expose (.lit 0) .watch with
        metering := { MeteringUnit.reset with state := .watch, record := .order .ok 720 ⟨900, 300, 200, 150⟩ 1 } })).exposure.state
      = .idle ∧
    (after (exec (.watchGroupEnd (reading 225) (reading 225) (reading 225) (reading 225))
      { exposing .expose (.lit 0) .watch with
        metering := { MeteringUnit.reset with state := .watch, record := .order .ok 720 ⟨900, 300, 200, 150⟩ 1 } })).exposure.state
      = .expose := by decide

/-- The stand with an empty gate at a stage of a calibration. -/
def calibrating (k : Nat) (r : CalibrationResults) : State :=
  let s := lighted { stand with exposure := .reset } .meter (.lit k) .calibration .calibration
  { s with metering := { MeteringUnit.reset with state := .calibration, calibrating := some r } }

/-- 2.9: the worked calibration is accepted. -/
theorem test_worked_calibration_accepted :
    (after (exec (.calibrationStageEnd (scan 122 0 0 0) (scan 122 0 0 0) (scan 122 0 0 0) (scan 122 0 0 0))
      (calibrating 3 ⟨some ⟨960, 1000, 980, 940⟩, [490, 245]⟩))).calibration =
      { StandCalibration.default with
        refCal := 960, baseRed := 1000, baseGreen := 980, baseBlue := 940, e1 := 8, e2 := 16, e3 := 24 } := by decide

/-- 2.9: a step 3 reading of 60 fails with E3 of 32. -/
theorem test_worked_calibration_failed :
    (after (exec (.calibrationStageEnd (scan 60 0 0 0) (scan 60 0 0 0) (scan 60 0 0 0) (scan 60 0 0 0))
      (calibrating 3 ⟨some ⟨960, 1000, 980, 940⟩, [490, 245]⟩))).metering.record =
      .calibration .failed 4 (some ⟨960, 1000, 980, 940⟩) [490, 245, 60] [8, 16, 32] := by decide

/-- 2.9: a slide inserted in stage 3 leaves the figures of the two stages that ended. -/
theorem test_slide_abandons_calibration :
    (after (exec .gateChange (let s := calibrating 2 ⟨some ⟨960, 1000, 980, 940⟩, [490]⟩
      { s with exposure := { s.exposure with gate := ⟨true, false, some 30⟩ } }))).metering.record =
      .calibration .failed 2 (some ⟨960, 1000, 980, 940⟩) [490] [8] := by decide

/-- 3.10: the three entries of the faded colour slide. -/
theorem test_worked_case_1 :
    [-8, 0, 8].map (planEntry faded { film with c := 3 } ⟨900, 300, 200, 150⟩) =
      [{ offset := -8, stop := 13, step := 0, time := 771, flags := .clear, heat := 1021 },
       { offset := 0, stop := 21, step := 0, time := 1542, flags := .clear, heat := 1792 },
       { offset := 8, stop := 29, step := 0, time := 3000, flags := { ExposureFlags.clear with isUnder := true }
         heat := 3250 }] := by decide

/-- 3.11 and 3.13: a step down the lamp, and a clamp below the top step. -/
theorem test_worked_cases_2_and_4 :
    chooseStep { faded with e1 := 7 } 40 (-10) = (1, 31, false, false) ∧ heatOf (250 + 31) 1 = 141 ∧
    chooseStep { faded with e1 := 12, tmin := 200, tmax := 500 } 100 7 = (1, 500, false, true) := by decide

/-- 3.12: clipping, darkness and OVER. -/
theorem test_worked_case_3 :
    ([-24, -16, 0].map (planEntry faded { tref := 15, c := -4, wr := 0, wg := 1, wb := 0, defaultFrames := 36 }
      ⟨960, 0, 1023, 1023⟩)).map (fun e => (e.stop, e.step, e.time, e.heat, e.flags)) =
      [(-28, 3, 20, 34, { ExposureFlags.clear with isOver := true, isClipped := true }),
       (-20, 3, 21, 34, { ExposureFlags.clear with isClipped := true }),
       (-4, 1, 21, 136, { ExposureFlags.clear with isClipped := true })] := by decide

/-- 3.12: Set Film Kind with weights all 0 stores (0, 1, 0). -/
theorem test_set_film_kind_weights :
    (reply (exec (.setFilmKind [2, 0, 15, 252, 0, 0, 0, 36]) stand)).map Service.body
      = some [1, 0, 15, 252, 0, 1, 0, 36] := by decide

/-- 4.8: 121 ms at step 1 accrue 61 units. -/
theorem test_stop_in_settle_accrues_61 :
    (after (exec (.stop []) (let s := exposing .settle (.settling 1) .idle
      { s with exposure := { s.exposure with litTime := 121 } }))).exposure.heatUsed = 61 := by decide

/-- 4.8: the second stage of a calibration brings the heat from 270 to 398. -/
theorem test_calibration_heat :
    (after (exec (.calibrationStageEnd (scan 490 0 0 0) (scan 490 0 0 0) (scan 490 0 0 0) (scan 490 0 0 0))
      (let s := calibrating 1 ⟨some ⟨960, 1000, 980, 940⟩, []⟩
       { s with exposure := { s.exposure with heatUsed := 270 } }))).exposure.heatUsed = 398 := by decide

/-- A transport that advances from a frame of roll 88, with some pulses behind it. -/
def advancing (pulses frame : Nat) : State :=
  { standWith { order with state := .exposing, plan := some plan, exposed := 1, nextCopy := 2 } with
    transport := { stand.transport with
      state := .advancing, motor := .forward, currentFrame := frame, pulseCount := pulses, advanceFor := some 720 } }

/-- 5.9: the 8th pulse brings READY at the next frame. -/
theorem test_eighth_pulse :
    (let t := (after (exec .perforationPulse (advancing 7 10))).transport
     (t.state, t.currentFrame, t.motor)) = (.ready, 11, .off) := by decide

/-- 5.9: a stall on a short roll ends it at the current frame. -/
theorem test_advance_stall :
    (after (exec .advanceStall (advancing 3 10))).rolls.map Roll.usable = [10] ∧
    (after (exec .advanceStall (advancing 3 10))).orders.table.map Order.state = [.paused .roll] := by decide

/-- 5.9: code contact C1 alone is kind 1. -/
theorem test_seated_kind_1 :
    (after (exec (.magazineSeated true false) { stand with
      transport := { TransportUnit.reset with state := .seating, detect1 := true, detect2 := true } })).transport.loadedKind
      = some 1 := by decide

/-- A frame entry of an order of account 412. -/
def taken (state : FrameState) (id step copy : Nat) : Frame :=
  { Frame.blank with
    state := state, order := id, account := 412, step := step, copy := copy, offset := if step = 1 then -8 else 8
    charge := 450 }

/-- Roll 93 of 6.10, out at the processor, and its three orders. -/
def processed (queue : List LabelEntry) : State :=
  { stand with
    transport := { stand.transport with roll := none, state := .loaded, currentFrame := 0 }
    rolls := [{ roll with
      number := 93, state := .out
      frames := [taken .exposed 720 1 1, taken .exposed 720 1 2, taken .exposed 720 2 1, taken .exposed 720 2 2,
        taken .exposed 721 1 1, taken .exposed 721 1 2, taken .spoiled 722 1 1] ++ List.replicate 5 .blank }]
    orders := { active := none, table :=
      [{ order with
         state := .done, exposed := 4, setupHold := 0, frameHold := 0
         catalogue := [65, 82, 67, 45, 49, 49, 50, 51, 45, 66], title := List.replicate 32 84 },
       { order with id := 721, labels := false, state := .done, exposed := 2, setupHold := 0, frameHold := 0
                    labelHold := 0, labelsOutstanding := 0 }] }
    labels := { stand.labels with queue := queue, printer := if queue = [] then .idle else .stockOut } }

/-- The Keep Report of 12.6 for roll 93. -/
def keep93 : List Byte := [0, 93, 6, 49, 52, 48, 54, 49, 49, 6, 1, 3, 3, 5, 7, 9]

/-- 12.6 and 6.10: the reply 3, 3, 2, 2 with 30 entries queued, and TABLE_FULL with 47. -/
theorem test_keep_report_93 :
    reply (exec (.keepReport keep93) (processed (List.replicate 30 ⟨1, 1, 1⟩))) = some ⟨35, .done, [3, 3, 2, 2]⟩ ∧
    reply (exec (.keepReport keep93) (processed (List.replicate 47 ⟨1, 1, 1⟩))) = some ⟨35, .tableFull, []⟩ := by decide

/-- 6.10: order 720 owes two labels fewer, and 120 less is held for it. -/
theorem test_keep_report_93_releases :
    ((after (exec (.keepReport keep93) (processed (List.replicate 30 ⟨1, 1, 1⟩)))).findOrder 720).map
      (fun o => (o.labelsOutstanding, o.labelHold)) = some (2, 120) := by decide

/-- Roll 93 kept, with the library mark HUMLIB. -/
def keptStand : State :=
  let s := after (exec (.keepReport keep93) (processed []))
  { s with labels := { s.labels with mark := some [72, 85, 77, 76, 73, 66] } }

/-- 7.10: the label of frame 3, 65 bytes. -/
theorem test_label_of_frame_3 :
    keptStand.composeLabel ⟨93, 3, 720⟩ =
      [72, 85, 77, 76, 73, 66, 32, 65, 82, 67, 45, 49, 49, 50, 51, 45, 66, 10] ++ List.replicate 24 84 ++
      [10, 49, 52, 48, 54, 49, 49, 32, 48, 48, 48, 57, 51, 45, 48, 51, 32, 43, 49, 46, 48, 10, 12] := by decide

/-- 7.11: a FED pulse completes the head entry, charges 60 and begins the next. -/
theorem test_fed_pulse :
    (let t := after (exec .fedPulse { keptStand with labels := { keptStand.labels with printer := .feeding [12] 0 } })
     (t.labels.queue, (t.findOrder 720).map (fun o => (o.labelsOutstanding, o.labelHold)), t.labels.printer.code,
      ((t.findRoll 93).bind fun r => r.frame 1).map Frame.state)) =
      ([⟨93, 3, 720⟩], some (1, 60), 1, some .labelled) := by decide

/-- R127: a byte taken has the next one on the data lines, and the form feed leaves them low with the index at it. -/
theorem test_byte_taken :
    (let s := { keptStand with labels := { keptStand.labels with printer := .sending [65, 12] 0 } }
     let t := after (exec .byteTaken s)
     (t.printerData, t.strobesGiven, (after (exec .byteTaken t)).labels.printer, (after (exec .byteTaken t)).printerData)) =
      (12, 2, .feeding [65, 12] 1, 0) := by decide

/-- 7.11: Resume Printer with the stock still out is refused and shows the state. -/
theorem test_resume_printer_without_stock :
    reply (exec (.resumePrinter []) { stand with labels := { stand.labels with printer := .stockOut, stockHigh := false } })
      = some ⟨65, .wrongState, [3]⟩ := by decide

/-- 8.4: the three holds of the table. -/
theorem test_holds_of_the_table :
    ([([5], 1, 0), ([0, 1, 2], 2, 1), ([0, 1, 2, 3, 4], 3, 1)] : List (List Byte × Byte × Byte)).map (fun (os, copies, labels) =>
      (after (exec (.submitOrder ([0, 9, 1, 156, 1, copies, labels, BitVec.ofNat 8 os.length] ++ os ++ [1, 65, 0]))
        admitting)).orders.table.map Order.holds) = [[750], [3360], [7950]] := by decide

/-- 8.13: an allowance below spent plus held is BELOW_COMMITTED; one that brings the account low raises ACCOUNT_LOW. -/
theorem test_set_account_lowered :
    (let s := { stand with accounts := { stand.accounts with slots :=
      [some { account with number := 515, allowance := 6000, warn := 1500, spent := 0, held := 4280 }] } }
     ((reply (exec (.setAccount [2, 3, 0, 0, 0, 15, 160, 0, 0, 5, 220]) s)).map Service.result,
      (after (exec (.setAccount [2, 3, 0, 0, 0, 19, 136, 0, 0, 5, 220]) s)).notices.pending)) =
      (some .belowCommitted, 1024) := by decide

/-- 9.9: the end of a write takes the lowest dirty place. -/
theorem test_write_end_takes_place_5 :
    (after (exec .writeEnd { stand with store := { stand.store with
      engine := some ⟨3, withCheck 90 film.fields, 6⟩
      dirty := (stand.store.dirty.set 5 true).set 6 true } })).store.engine.map PlaceWrite.place = some 5 := by decide

/-- 9.9: a RESET met by a write is deferred, and its end clears the dirty marks. -/
theorem test_deferred_reset :
    (after (exec .writeEnd (after (exec .resetFall { stand with store := { stand.store with
      engine := some ⟨3, withCheck 90 film.fields, 6⟩, dirty := stand.store.dirty.set 6 true } })))).store.dirty
      = List.replicate 38 false := by decide

/-- 10.9: the second request is held and the third discarded. -/
theorem test_three_requests :
    (let s := after (exec (.labelStatus []) (after (exec (.readRates []) (after (exec (.orderReport [2, 208]) stand)))))
     (s.line.inService.map Service.kind, s.line.held)) = (some 18, some ⟨85, []⟩) := by decide

/-- 12.6: the Status of a stand at END with order 701 PAUSED. -/
theorem test_status_at_roll_end :
    (reply (exec (.status []) { standWith { order with id := 701, state := .paused .roll } with
      transport := { stand.transport with state := .atEnd, currentFrame := 12 }
      notices := { NoticeUnit.reset with pending := 6, enabled := 6 } })).map Service.body =
      some [0, 6, 0, 6, 0, 6, 7, 12, 1, 0, 1, 2, 189, 0, 0, 0, 1, 0, 0, 0] := by decide

/-! ## Witnesses: a state and operands that meet a statement's hypotheses, clause by clause -/

/-- A stand whose printer stands as given. -/
def printing (queue : List LabelEntry) (p : Printer) : State :=
  { stand with labels := { stand.labels with queue := queue, printer := p } }

/-- A stand whose transport is in a state. -/
def transporting (t : TransportState) (m : Motor) : State :=
  { stand with transport := { stand.transport with state := t, motor := m } }

/-- A stand whose line port is as given. -/
def lineAt (a : Assembly) (r : Option Service) (h : Option Request) (t : Transmitter) : State :=
  { stand with line := { stand.line with assembly := a, inService := r, held := h, transmitter := t } }

/-- A stand with a write under way. -/
def writing : State :=
  { stand with store := { stand.store with engine := some ⟨5, List.replicate 13 7, 3⟩ } }

/-- A stand whose gate switch has held its level for 30 ms against the reading. -/
def gateHeld (s : State) (level : Bool) : State :=
  { s with exposure := { s.exposure with gate := ⟨level, !level, some 30⟩ } }

/-- A pass at whose end commands wait, with the gate held open and STOP held closed for their 30 ms, and a reply sent. -/
def meeting (waiting : List Instr) : State :=
  let s := gateHeld (passing .meter (.lit 0) .pass) false
  { s with
    panel := { s.panel with stop := ⟨true, false, some 30⟩ }, pending := waiting
    line := { s.line with inService := some ⟨1, .done, []⟩, transmitter := .sending [] } }

/-- The end of that pass. -/
def ended (waiting : List Instr) : State :=
  after (exec (.orderPassEnd (scan 900 300 200 150) (scan 900 300 200 150) (scan 900 300 200 150)
    (scan 900 300 200 150)) (meeting waiting))

/-- What the end of the pass and then the commands leave: the unit after each, and the orders at the end. -/
def course (waiting : List Instr) : UnitState × UnitState × List (OrderState × Nat) :=
  let t := after (runCommands waiting (ended waiting))
  ((ended waiting).exposure.state, t.exposure.state, t.orders.table.map fun o => (o.state, o.spoiled))

/-- R73, R19, R20: a cause that falls at the end of the pass, behind other commands too, finds the unit IDLE and spoils no
frame; behind a Cancel that marks the order the first frame begins. -/
theorem test_cause_at_the_end_of_a_pass :
    [[.gateChange], [.prnStockFall, .stopPress], [.replyEnd, .cancelOrder [2, 208], .stopPress], [.replyEnd, .stop []],
      [.replyEnd, .cancelOrder [2, 208]]].map course =
    [(.idle, .idle, [(.cutShort .slideRemoved, 0)]), (.idle, .idle, [(.cutShort .stopped, 0)]),
      (.idle, .idle, [(.cutShort .stopped, 0)]), (.idle, .idle, [(.cutShort .stopped, 0)]),
      (.idle, .settle, [(.exposing, 0)])] := by decide

/-- R11, R12, R67, R195: with no cause at that moment the first frame begins in the step: a Stop that will be held is none,
nor is the end of a reply; and a level that changes now, or a second frame on the wire, brings its cause later, which
spoils the frame. -/
theorem test_first_frame_begins :
    [[], [.status []], [.stop []], [.replyEnd], [.dataCharacter 7]].map (fun q => (ended q).exposure.state) =
      List.replicate 5 .settle ∧
    [[.gateSwitchChange true, .gateSwitchChange false, .buttonLevelChange .stop false, .buttonLevelChange .stop true,
      .stopPress], [.replyEnd, .status [], .broadcastStop]].map course =
    List.replicate 2 (.settle, .idle, [(.cutShort .stopped, 1)]) := by decide

/-- A stand with its KEY on. -/
def keyed : State := { stand with accounts := { stand.accounts with key := ⟨true, true, none⟩ } }

/-- A stand whose button has held its level for 30 ms. -/
def pressed (s : State) : State :=
  { s with panel := { start := ⟨true, false, some 30⟩, stop := ⟨true, false, some 30⟩, rewind := ⟨true, false, some 30⟩ } }

/-- A Meter Test of an order's film kind at the end of its pass. -/
def testing : State :=
  let s := lighted stand .meter (.lit 0) .testPass .test
  { s with metering := { MeteringUnit.reset with state := .test, test := some ⟨1, -5⟩ } }

/-- A watched exposure. -/
def watched : State :=
  { exposing .expose (.lit 0) .watch with
    metering := { MeteringUnit.reset with state := .watch, record := .order .ok 720 ⟨900, 300, 200, 150⟩ 1 } }

theorem witness_EmptyQueueTicks :
    ({ stand with power := ⟨.held, false⟩ }.pending = [] ∧ { stand with power := ⟨.held, false⟩ }.running = false) ∧
    stand.running = true ∧ stand.pending = [] := by decide

/-- A command waits in a state of each invariant. -/
def waiting : State := { watched with pending := [.exposureTimeEnd] }

theorem waiting_steps : ∃ t, step waiting = .next t := ⟨_, rfl⟩

theorem witness_NoticeSetsStayClear : waiting.noticeSetsClear ∧ ∃ t, step waiting = .next t :=
  ⟨⟨by decide, by decide⟩, waiting_steps⟩

theorem waiting_mark : waiting.markHolds :=
  ⟨by decide, by decide, fun _ h => ⟨_, List.mem_cons_self, Option.some.inj h⟩⟩

theorem witness_ActiveOrderMarkHolds : waiting.markHolds ∧ ∃ t, step waiting = .next t := ⟨waiting_mark, waiting_steps⟩

theorem witness_AccountsStayInBalance : waiting.accountsBalance ∧ ∃ t, step waiting = .next t :=
  ⟨⟨by decide, by decide, by decide, by decide, by decide⟩, waiting_steps⟩

theorem waiting_light : waiting.lightSafe := by
  refine ⟨waiting_mark, ⟨⟨0, rfl⟩, rfl, rfl, ⟨0, 500, rfl⟩⟩, ?_, ?_, ?_, ?_, by decide⟩
  · intro p h
    cases h
    decide
  · intro p h _
    rfl
  · intro h
    cases h
  · intro k t h
    exact ⟨_, rfl, rfl⟩

theorem witness_LightStaysSafe : waiting.lightSafe ∧ ∃ t, step waiting = .next t := ⟨waiting_light, waiting_steps⟩

theorem witness_TablesStayWithinLimits : waiting.tablesKept ∧ ∃ t, step waiting = .next t :=
  ⟨⟨by decide, by decide, by decide, rfl, by decide⟩, waiting_steps⟩

theorem witness_StoreKeepsItsForm : waiting.storeKept ∧ ∃ t, step waiting = .next t :=
  ⟨⟨by decide, by decide, by decide, by decide, by decide, fun _ h => by cases h⟩, waiting_steps⟩

theorem stand_free : stand.free := ⟨rfl, by decide, rfl⟩

theorem witness_FrameCharactersAreTheRequest :
    requestCommand 16 (List.replicate 63 5) = some (.submitOrder (List.replicate 63 5)) ∧
    (List.replicate 63 (5 : Byte)).length ≤ 63 ∧ requestCommand 85 [] = some (.readRates []) ∧
    stand.power.phase = .listening ∧ stand.line.station ≠ 0 := by decide

theorem witness_BroadcastFrames :
    stand.power.phase = .listening ∧ (6 : Nat) < 256 ∧ (5 : Nat) < 256 ∧ (255 : Nat) < 256 ∧
    (List.replicate 63 (6 : Byte)).length ≤ 63 ∧ ¬ ((255 : Nat) = 6 ∧ List.replicate 63 (6 : Byte) = []) ∧
    ¬ ((255 : Nat) = 5 ∧ List.replicate 63 (6 : Byte) = []) := by decide

theorem witness_CharactersAreAssembled :
    stand.power.phase = .listening ∧ stand.line.assembly = .unaddressed ∧
    (lineAt (.expectLen true) none none .idle).line.assembly = .expectLen true ∧
    (lineAt (.collecting false 64 (List.replicate 63 0) 64) none none .idle).line.assembly =
      .collecting false 64 (List.replicate 63 0) 64 ∧
    (lineAt (.expectCheck false [1] 2) none none .idle).line.assembly = .expectCheck false [1] 2 ∧
    (2 : Byte) + 253 ≠ 0 ∧ (lineAt (.expectCheck false [1] 2) none none .idle).line.assembly ≠ .unaddressed := by decide

theorem witness_RequestsAreHeldOrRefused :
    requestCommand 18 [2, 208] = some (.orderReport [2, 208]) ∧ stand.power.phase = .listening ∧ stand.line.station ≠ 0 ∧
    (lineAt .unaddressed (some ⟨1, .done, []⟩) none .waiting).line.inService = some ⟨1, .done, []⟩ ∧
    requestCommand 18 [2] = some (.orderReport [2]) ∧ lengthOk 18 [2] = false ∧
    requestCommand 255 [1] = none ∧ requestCommand 0 [] = none ∧ stand.line.inService = none := by decide

theorem witness_ReplyBeginSendsTheReply :
    stand.power.phase = .listening ∧
    (lineAt .unaddressed (some ⟨255, .unknownKind, []⟩) none .waiting).line.transmitter = .waiting ∧
    (lineAt .unaddressed (some ⟨255, .unknownKind, []⟩) none .waiting).line.inService = some ⟨255, .unknownKind, []⟩ ∧
    (lineAt .unaddressed (some ⟨127, .done, List.replicate 253 1⟩) none .waiting).line.inService =
      some ⟨127, .done, List.replicate 253 1⟩ ∧
    (List.replicate 253 (1 : Byte)).length ≤ 253 := ⟨rfl, rfl, rfl, rfl, Nat.le_of_eq List.length_replicate⟩

/-- A reply being sent, with a request held behind it. -/
def replied (h : Option Request) : State := lineAt .unaddressed (some ⟨1, .done, []⟩) h (.sending [])

theorem witness_ReplyEndTakesTheHeldRequest :
    (replied none).power.phase = .listening ∧ (replied none).line.transmitter = .sending [] ∧
    (replied none).line.inService = some ⟨1, .done, []⟩ ∧ ¬ ((1 : Nat) = 5 ∧ Result.done = .done) ∧
    (replied none).line.held = none ∧ (replied (some ⟨20, []⟩)).line.held = some ⟨20, []⟩ ∧
    requestCommand 20 [] = some (.start []) ∧ (replied (some ⟨20, []⟩)).line.station ≠ 0 ∧
    (lineAt (.expectLen false) (some ⟨1, .done, []⟩) (some ⟨20, []⟩) (.sending [])).line.held = some ⟨20, []⟩ ∧
    (replied (some ⟨255, [1]⟩)).line.held = some ⟨255, [1]⟩ ∧ requestCommand 255 [1] = none := by decide

theorem witness_RestartOfAnIdleStand :
    stand.power.phase = .listening ∧ stand.orders.active = none ∧ stand.exposure.purpose = none ∧
    stand.labels.printer = .idle ∧ stand.labels.queue = [] ∧ stand.labels.stockHigh = true ∧
    stand.labels.faultHigh = true ∧
    (lineAt .unaddressed (some ⟨5, .done, []⟩) none (.sending [])).line.transmitter = .sending [] ∧
    (lineAt .unaddressed (some ⟨5, .done, []⟩) none (.sending [])).line.inService = some ⟨5, .done, []⟩ := by decide

theorem stand_mark : stand.markHolds := ⟨by decide, by decide, fun _ h => by cases h⟩

theorem stand_light : stand.lightSafe :=
  ⟨stand_mark, ⟨rfl, rfl, rfl, rfl, rfl⟩, fun _ h => (by cases h), fun _ h => (by cases h), fun h => (by cases h),
    fun _ _ h => (by cases h), by decide⟩

theorem testing_light : testing.lightSafe :=
  ⟨stand_mark, ⟨⟨0, rfl⟩, rfl, rfl, .inr (.inl rfl)⟩, fun _ h => (by cases h; decide),
    fun _ h hp => (by cases h; cases hp), fun h => (by cases h), fun _ _ h => (by cases h), by decide⟩

/-- A calibration whose first stage has ended. -/
def staged : State := calibrating 1 ⟨some ⟨960, 1000, 980, 940⟩, []⟩

theorem staged_light : staged.lightSafe :=
  ⟨stand_mark, ⟨⟨1, rfl⟩, rfl, rfl, .inr (.inr rfl)⟩, fun _ h => (by cases h; decide),
    fun _ h hp => (by cases h; cases hp), fun h => (by cases h), fun _ _ h => (by cases h), by decide⟩

theorem witness_RestartEndsTheWork :
    (waiting.lightSafe ∧ waiting.power.phase = .listening ∧ waiting.exposureUnderWay = true ∧
      waiting.exposure.lamp = .lit 0 ∧ (∃ o, waiting.activeOrder = some o ∧ o.state.isActive = true)) ∧
    (stand.lightSafe ∧ stand.power.phase = .listening ∧ stand.exposure.purpose = none ∧ stand.orders.active = none ∧
      order.state.isActive = false) ∧
    (testing.lightSafe ∧ testing.power.phase = .listening ∧ testing.exposure.purpose = some .testPass ∧
      testing.metering.test = some ⟨1, -5⟩) ∧
    (staged.lightSafe ∧ staged.power.phase = .listening ∧ staged.exposure.purpose = some .calibration ∧
      staged.metering.calibrating = some ⟨some ⟨960, 1000, 980, 940⟩, []⟩) ∧
    (lineAt .unaddressed (some ⟨5, .done, []⟩) none (.sending [])).line.transmitter = .sending [] ∧
    (lineAt .unaddressed (some ⟨5, .done, []⟩) none (.sending [])).line.inService = some ⟨5, .done, []⟩ :=
  ⟨⟨waiting_light, rfl, by decide, rfl, _, rfl, rfl⟩, ⟨stand_light, by decide⟩, ⟨testing_light, by decide⟩,
    ⟨staged_light, by decide⟩, by decide⟩

theorem witness_NoticeRequestsAreAnswered :
    stand.free ∧ (16383 : NoticeSet).toNat = (63 : Byte).toNat * 256 + (255 : Byte).toNat ∧
    (16383 : NoticeSet).toNat < 16384 ∧ (16384 : NoticeSet).toNat = (64 : Byte).toNat * 256 + (0 : Byte).toNat ∧
    16384 ≤ (16384 : NoticeSet).toNat := ⟨stand_free, by decide⟩

theorem witness_LampsFollowTheState : waiting.noticeSetsClear ∧ waiting.markHolds :=
  ⟨witness_NoticeSetsStayClear.1, waiting_mark⟩

theorem witness_SwitchesAreDebounced :
    stand.running = true ∧
    { stand with accounts := { stand.accounts with key := ⟨true, false, some 30⟩ } }.accounts.key.count.isSome = true ∧
    ({ stand with panel := { stand.panel with stop := ⟨false, true, some 30⟩ } }.panel.button .stop).count.isSome = true ∧
    ({ stand with panel := { stand.panel with stop := ⟨false, true, some 30⟩ } }.panel.button .stop).level = false := by
  decide

theorem witness_SubmitOrderAdmits :
    admitting.free ∧ (submit720 32).length ≤ 63 ∧ submitLengthOk (submit720 32) = true ∧
    (readSubmit (submit720 32)).inRange = true ∧ admitting.labels.mark.isSome = true ∧
    admitting.accounts.rates.isSome = true ∧ admitting.findOrder (readSubmit (submit720 32)).id = none ∧
    admitting.exposedFrameNames (readSubmit (submit720 32)).id = false ∧ admitting.orders.table.length < 16 ∧
    admitting.findAccount (readSubmit (submit720 32)).account =
      some { account with allowance := 50000, warn := 5000, spent := 0, held := 0 } ∧
    account.suspended = false ∧ (admitting.films.getD (readSubmit (submit720 32)).filmKind none).isSome = true ∧
    300 + 4 * 450 + 4 * 60 ≤ 50000 - 0 - 0 := ⟨⟨rfl, by decide, rfl⟩, by decide⟩

theorem witness_SubmitOrderIsRefusedInOrder :
    stand.free ∧ (submit720 32).length ≤ 63 ∧ submitLengthOk (submit720 32) = true ∧
    (readSubmit (submit720 33)).inRange = false ∧ State.reset.labels.mark = none ∧
    (∃ o ∈ stand.orders.table, o.id = (readSubmit (submit720 32)).id) ∧ State.reset.accounts.rates = none :=
  ⟨stand_free, by decide⟩

theorem witness_OrdersAreCancelledAndRetired :
    stand.free ∧ 720 = (2 : Byte).toNat * 256 + (208 : Byte).toNat ∧ stand.findOrder 721 = none ∧
    stand.findOrder 720 = some order ∧ order.state = .queued ∧
    (passing .meter (.lit 0) .pass).findOrder 720 = some { order with state := .metering } ∧
    (passing .meter (.lit 0) .pass).exposure.purpose = some .orderPass ∧
    (standWith { order with state := .exposing, exposed := 3 }).findOrder 720 =
      some { order with state := .exposing, exposed := 3 } ∧
    { order with state := .exposing, exposed := 3 }.unmade ≠ 0 ∧
    (ended [.replyEnd, .cancelOrder [2, 208]]).exposure.frameWaits = true ∧
    { order with state := .exposing, exposed := 4 }.unmade = 0 ∧
    (standWith { order with state := .done }).findOrder 720 = some { order with state := .done } ∧
    OrderState.done.finished = true := ⟨stand_free, by decide⟩

theorem witness_FinishSettlesTheOrder :
    (stand.orders.table.map Order.id).Nodup ∧ order ∈ stand.orders.table ∧
    order.frameHold = order.unmade * order.frameRate ∧
    order.labelHold = (if order.labels then order.labelsOutstanding * order.labelRate else 0) ∧
    order.setupHold = (if order.exposed = 0 then order.setupFee else 0) ∧
    (order.labels = true → order.unmade ≤ order.labelsOutstanding) := by decide

theorem witness_OrderReportShowsTheRecord :
    stand.free ∧ 720 = (2 : Byte).toNat * 256 + (208 : Byte).toNat ∧ stand.findOrder 720 = some order ∧
    stand.activeOrder = none ∧ stand.findOrder 719 = none ∧
    (stand.orders.table.map Order.id).Nodup ∧ stand.orders.table[0]? = some order ∧
    (standWith { order with state := .exposing }).activeOrder = some { order with state := .exposing } :=
  ⟨stand_free, by decide⟩

theorem witness_StartTakesAnOrder :
    stand.free ∧ stand.transport.state = .ready ∧ stand.exposure.gate.reading = true ∧ stand.calibration.refCal ≠ 0 ∧
    stand.metering.test = none ∧ stand.metering.calibrating = none ∧ stand.transport.loadedKind = some order.filmKind ∧
    (stand.activeOrder = none ∧ stand.orders.table = [] ++ order :: [] ∧ order.state = .queued ∧
      stand.findAccount order.account = some account ∧ account.suspended = false) ∧
    ((standWith { order with state := .paused .lamp }).activeOrder = some { order with state := .paused .lamp }) ∧
    (pressed stand).panel.start.count.isSome = true ∧ (pressed stand).panel.start.level = true :=
  ⟨stand_free, by decide⟩

theorem witness_RefusedStartGivesItsReason :
    StartRefusal.noFilm ≠ .none ∧ (transporting .loaded .off).metering.test.isSome = false ∧
    (transporting .loaded .off).metering.calibrating.isSome = false ∧ (transporting .loaded .off).activeOrder = none ∧
    (transporting .loaded .off).transport.state ≠ .ready ∧ testing.metering.test.isSome = true ∧
    (transporting .loaded .off).power.phase = .listening ∧ (transporting .loaded .off).line.station ≠ 0 ∧
    (transporting .loaded .off).line.inService = none ∧
    (pressed stand).panel.start.count.isSome = true ∧ (pressed stand).panel.start.level = true := by decide

theorem witness_StopCutsTheOrderShort :
    watched.free ∧ watched.power.phase = .listening ∧ (pressed watched).panel.stop.count.isSome = true ∧
    (pressed watched).panel.stop.level = true := ⟨⟨rfl, by decide, rfl⟩, by decide⟩

theorem witness_PuttingTheLampOutAccruesHeat :
    (passing .settle (.settling 3) .idle).exposure.lamp = .settling 3 ∧
    (passing .meter (.lit 0) .pass).exposure.lamp = .lit 0 := by decide

theorem witness_AbortSpoilsTheFrame :
    watched.activeOrder = some { order with state := .exposing, plan := some plan } ∧
    watched.exposure.lamp = .lit 0 ∧ (exposing .settle (.settling 3) .idle).exposure.lamp = .settling 3 ∧
    watched.findAccount order.account = some account := by decide

theorem witness_ReadingsMakeEntries :
    (reading 1023).ok = true ∧ 1023 * (reading 1023).vref ≤ 1024 * (reading 1023).voltage ∧
    1024 * (reading 1022).voltage < 1023 * (reading 1022).vref := by decide

theorem witness_WeightedDensityIsTheRoundedMean :
    (4 : Nat) = film.wr + film.wg + film.wb ∧ (1 : Nat) ≤ 4 ∧
    (69 : Nat) = film.wr * 13 + film.wg * 18 + film.wb * 20 ∧ (79 : Nat) ≤ 79 := by decide

theorem witness_ExposureTimeOfStops : (-10 : Int) = 8 * (-2) + (6 : Nat) ∧ (7 : Nat) ≤ 7 ∧ (-10 : Int) ≤ -3 := by decide

theorem witness_LampStepChoice :
    faded.e1 ≤ faded.e2 ∧ faded.e2 ≤ faded.e3 ∧ faded.tmin ≤ faded.tmax ∧
    faded.tmax < timeOf 250 (29 + 0) ∧
    (faded.tmin ≤ timeOf 250 (13 + 0) ∧ timeOf 250 (13 + 0) ≤ faded.tmax) ∧
    timeOf 15 (-28 + 24) < faded.tmin ∧
    (faded.tmin ≤ timeOf 15 (-20 + 24) ∧ ∀ j, j < 3 → timeOf 15 (-20 + (([0, 8, 16, 24] : List Nat).getD j 0 : Nat)) < faded.tmin) := by
  decide

theorem witness_MeasurementsBeginAndSettle :
    stand.free ∧
    (false = true ↔ stand.metering.state ≠ .idle ∨ stand.exposure.state ≠ .idle ∨ stand.transport.state = .advancing ∨
      stand.transport.state = .leader) ∧
    (passing .settle (.settling 0) .idle).exposure.state = .settle ∧
    (passing .settle (.settling 0) .idle).exposure.lamp = .settling 0 ∧
    (passing .settle (.settling 0) .idle).exposure.purpose = some .orderPass ∧
    (lighted stand .settle (.settling 0) .testPass .idle).exposure.purpose = some .testPass ∧
    (lighted stand .settle (.settling 3) .calibration .calibration).exposure.purpose = some .calibration ∧
    (exposing .settle (.settling 0) .idle).exposure.purpose = some (.exposure 0 500) := ⟨stand_free, by decide⟩

theorem witness_PassEndsAreRecorded :
    (passAverages (scan 900 300 200 150) (scan 900 300 200 150) (scan 900 300 200 150) (scan 900 300 200 150)).ref = 900 ∧
    ((logEighths 900 : Int) - logEighths (max 1 900) = 0) ∧
    ¬ (max 1 900 < 64 ∨ (0 : Int) < -16 ∨ (16 : Int) < 0) ∧ max 1 (63 : Nat) < 64 ∧
    (passing .meter (.lit 0) .pass).exposure.lamp = .lit 0 ∧ (passing .meter (.lit 0) .pass).metering.state = .pass ∧
    (passing .meter (.lit 0) .pass).exposure.purpose = some .orderPass ∧
    (passing .meter (.lit 0) .pass).activeOrder = some { order with state := .metering } ∧
    (passing .meter (.lit 0) .pass).films.getD order.filmKind none = some film ∧
    (meeting [.gateChange]).exposure.lamp = .lit 0 ∧ (meeting [.gateChange]).metering.state = .pass ∧
    (meeting [.gateChange]).pending = [.gateChange] ∧
    causeMet false false .nothing [.gateChange] (ended [.gateChange]) = .ending ∧
    testing.exposure.lamp = .lit 0 ∧ testing.metering.state = .test ∧ testing.metering.test = some ⟨1, -5⟩ ∧
    testing.films.getD 1 none = some film := by decide

theorem witness_ReadMeteringShowsTheRecord :
    stand.free ∧ stand.metering.record = .none ∧
    watched.metering.record = .order .ok 720 ⟨900, 300, 200, 150⟩ 1 := ⟨stand_free, by decide⟩

theorem witness_CalibrationStages :
    (calibrating 0 ⟨none, []⟩).exposure.state = .meter ∧
    (calibrating 0 ⟨none, []⟩).exposure.purpose = some .calibration ∧ (calibrating 0 ⟨none, []⟩).exposure.lamp = .lit 0 ∧
    (calibrating 0 ⟨none, []⟩).metering.calibrating = some ⟨none, []⟩ ∧
    (calibrating 2 ⟨some ⟨960, 1000, 980, 940⟩, [490]⟩).metering.calibrating = some ⟨some ⟨960, 1000, 980, 940⟩, [490]⟩ ∧
    (calibrating 3 ⟨some ⟨960, 1000, 980, 940⟩, [490, 245]⟩).metering.calibrating =
      some ⟨some ⟨960, 1000, 980, 940⟩, [490, 245]⟩ ∧
    (calibrating 3 ⟨some ⟨960, 1000, 980, 940⟩, [490, 245]⟩).exposure.lamp = .lit 3 ∧
    (∀ v ∈ [960, 1000, 980, 940, 490, 245, 122], v ≠ 0 ∧ v ≠ 1023) ∧
    (logEighths 960 : Int) - logEighths 490 = 8 ∧ (logEighths 960 : Int) - logEighths 245 = 16 ∧
    (logEighths 960 : Int) - logEighths 122 = 24 ∧ ¬ ((logEighths 960 : Int) - logEighths 60 - 16 ≤ 12) := by decide

theorem witness_WatchGroupsGuardTheLamp :
    watched.metering.state = .watch ∧ watched.exposure.purpose = some (.exposure 0 500) ∧
    averageReading (reading 225) (reading 225) (reading 225) (reading 225) = 225 ∧
    averageReading (reading 224) (reading 224) (reading 224) (reading 224) = 224 ∧
    (900 : Nat) = max 1 900 ∧ max 1 (900 / 2 ^ (0 + 2)) ≤ 225 ∧ 224 < max 1 (900 / 2 ^ (0 + 2)) ∧
    watched.activeOrder = some { order with state := .exposing, plan := some plan } := by decide

theorem witness_FilmKindsAndRatesAreRead :
    stand.free ∧ 3 < (4 : Byte).toNat ∧ (3 : Byte).toNat ≤ 3 ∧ stand.films.getD 3 none = none ∧
    stand.films.getD 1 none = some film ∧ State.reset.accounts.rates = none ∧ stand.accounts.rates.isSome = true :=
  ⟨stand_free, by decide⟩

theorem witness_SettingsAreSet :
    stand.free ∧ ([1, 44, 1, 144, 1, 194, 1, 244, 2, 38, 0, 60] : List Byte).length = 12 ∧
    2000 = (7 : Byte).toNat * 256 + (208 : Byte).toNat ∧
    pairAt [3, 232, 0, 50, 254, 180, 128, 16, 0, 10, 1, 244] 0 = 1000 ∧ keyed.accounts.key.reading = true :=
  ⟨stand_free, by decide⟩

theorem witness_WriteEngineTakesTheLowestPlace :
    stand.store.dirty.length = 38 ∧ (37 : Nat) < 38 ∧ stand.power.phase = .listening ∧ stand.store.engine = none ∧
    stand.store.resetPending = false ∧ (∀ m ∈ stand.store.dirty, m = false) ∧
    writing.store.engine = some ⟨5, List.replicate 13 7, 3⟩ ∧ writing.store.resetPending = false ∧
    { writing.store with dirty := writing.store.dirty.set 37 true }.dirty[37]? = some true ∧
    (∀ q, q < 37 → { writing.store with dirty := writing.store.dirty.set 37 true }.dirty[q]? = some false) ∧
    { writing.store with resetPending := true }.resetPending = true := by decide

theorem witness_StoredRecordsRoundTrip :
    StandCalibration.default.inRange = true ∧ film.inRange = true ∧ (65535 : Nat) < 65536 ∧
    { account with number := 9999, allowance := 9999999, warn := 9999999, spent := 9999999 }.inRange = true ∧
    byteSum [0, 5, 255, 250, 1] ≠ 90 ∧ (∃ b ∈ ([0, 5, 255, 250, 1] : List Byte), b ≠ 255) ∧
    pairAt [0, 5, 255, 250, 1] 0 + pairAt [0, 5, 255, 250, 1] 2 = 65535 ∧ byteSum [0, 5, 255, 251, 1] ≠ 90 := by decide

/-- Held by RESET, with two places of one account number, a damaged film kind and a damaged account place. -/
def heldStand : State :=
  { State.reset with
    power := ⟨.held, false⟩
    store := { SettingsStore.reset with places := (((SettingsStore.reset.places.set 6 (withCheck 90 account.fields)).set 8
      (withCheck 90 account.fields)).set 2 (List.replicate 8 3)).set 37 (List.replicate 18 0) } }

theorem witness_PowerAndResetCourse :
    stand.power.phase = .listening ∧ stand.store.engine = none ∧ writing.store.engine ≠ none ∧
    heldStand.power.phase = .held ∧ heldStand.transport.state = .empty ∧
    accountOf (heldStand.store.places.getD 6 []) = some { account with held := 0 } ∧
    accountOf (heldStand.store.places.getD 8 []) = some { account with held := 0 } ∧
    judge readFilmKind (heldStand.store.places.getD 2 []) = .damaged ∧
    judge readAccount (heldStand.store.places.getD 37 []) = .damaged ∧
    { stand with power := ⟨.loading, true⟩ }.power.phase = .loading ∧ (∀ m ∈ stand.store.dirty, m = false) ∧
    (List.replicate 13 (1 : Byte)).length = Config.placeSize 5 := by decide

theorem witness_ExposureTimeEndCompletesTheFrame :
    watched.exposure.state = .expose ∧ watched.exposure.purpose = some (.exposure 0 500) ∧
    watched.exposure.lamp = .lit 0 ∧ watched.activeOrder = some { order with state := .exposing, plan := some plan } := by
  decide

theorem witness_AdvanceOutcomeMovesTheOrder :
    (advancing 7 10).findOrder 720 =
      some { order with state := .exposing, plan := some plan, exposed := 1, nextCopy := 2 } := by decide

theorem witness_MoneyMovesTogether :
    stand.findOrder 720 = some order ∧ stand.findAccount order.account = some account ∧
    stand.slotOf order.account = some 0 ∧ min 0 order.frameHold = 0 ∧ (450 : Nat) ≠ 0 ∧ account.spent - 450 ≠ account.spent ∧
    (300 : Nat) = min 301 order.setupHold ∧ (450 : Nat) = min 450 order.frameHold ∧ 60 = min 60 order.labelHold ∧
    450 ≤ account.held ∧ account.spent + account.held ≤ account.allowance := by decide

theorem witness_GateChangeIsHandledInOrder :
    (gateHeld stand true).exposure.gate.count.isSome = true ∧ (gateHeld stand true).exposure.gate.level = true ∧
    (gateHeld stand true).exposure.purpose = none ∧ (gateHeld stand true).exposure.firstReading = false ∧
    (gateHeld (calibrating 2 ⟨none, []⟩) true).exposure.purpose = some .calibration ∧
    (gateHeld (calibrating 2 ⟨none, []⟩) true).metering.calibrating = some ⟨none, []⟩ ∧
    { (gateHeld (calibrating 2 ⟨none, []⟩) true).exposure with firstReading := true }.purpose = some .calibration ∧
    (gateHeld testing false).exposure.gate.level = false ∧ (gateHeld testing false).exposure.firstReading = false ∧
    (gateHeld testing false).exposure.purpose = some .testPass ∧ (gateHeld testing false).metering.test = some ⟨1, -5⟩ ∧
    (gateHeld testing false).orders.active = none ∧ (gateHeld testing false).exposure.lamp = .lit 0 ∧
    (gateHeld (passing .meter (.lit 0) .pass) false).exposure.purpose = some .orderPass ∧
    (gateHeld (passing .meter (.lit 0) .pass) false).activeOrder = some { order with state := .metering } ∧
    (gateHeld watched false).exposure.purpose = some (.exposure 0 500) ∧
    (gateHeld watched false).activeOrder = some { order with state := .exposing, plan := some plan } := by decide

theorem witness_RollsAreDeclaredAndRewound :
    90 = (0 : Byte).toNat * 256 + (90 : Byte).toNat ∧ 0 = (0 : Byte).toNat ∧
    (transporting .loaded .off).transport.loadedKind = some 1 ∧
    (36 : Nat) = ((stand.films.getD 1 none).map FilmKind.defaultFrames).getD 0 ∧
    stand.activeOrder = none ∧ stand.power.phase = .listening ∧ stand.line.station ≠ 0 ∧ stand.line.inService = none ∧
    (pressed stand).panel.rewind.count.isSome = true ∧ (pressed stand).panel.rewind.level = true ∧
    (transporting .rewinding .reverse).transport.state = .rewinding ∧
    (transporting .rewinding .reverse).transport.pulseSeen = false ∧
    { (transporting .rewinding .reverse).transport with pulseSeen := true }.pulseSeen = true := by decide

theorem witness_MagazinesAreSeated :
    stand.running = true ∧ (transporting .seating .off).transport.state = .seating ∧
    (transporting .seating .off).transport.detect1 = true ∧ (transporting .seating .off).transport.detect2 = true ∧
    (transporting .misseated .off).transport.state = .misseated ∧ State.reset.transport.state = .empty ∧
    State.reset.transport.detect1 = false ∧ State.reset.transport.detect2 = false := by decide

/-- A stand with one detect contact open. -/
def pulled (s : State) : State := { s with transport := { s.transport with detect2 := false } }

/-- Roll 94 of 6.10 with orders 725 and 730, frame 6 under exposure, and the magazine pulled for its 30 ms. -/
def fogging : State :=
  let s := pulled watched
  let made (number account charge : Nat) : Frame :=
    { Frame.blank with state := .exposed, order := number, account := account, charge := charge }
  { s with
    orders := ⟨[{ order with
      id := 730, offsets := [0, 8], copies := 3, setupHold := 0, frameHold := 1350, labelHold := 360, exposed := 3
      nextStep := 2, state := .exposing, plan := some plan, labelsOutstanding := 6 }], some 730⟩
    rolls := [{ roll with
      number := 94, frames := [made 725 515 400, made 725 515 400, made 730 412 450, made 730 412 450, made 730 412 450] ++
        List.replicate 7 .blank }]
    transport := { s.transport with roll := some 94, currentFrame := 6, openFor := some 30 }
    accounts := { s.accounts with slots := [some { account with spent := 1650, held := 1710 },
      some { account with number := 515, spent := 800, held := 0 }] ++ List.replicate 30 none } }

/-- 6.10: the abort spoils frame 6 with charge 0 and releases 450 and 60; and after the removal frames 1 to 5 are FOGGED,
nothing is held, and 300 of account 412 and 0 of account 515 stay spent. -/
theorem test_roll_fogged_across_two_orders :
    (fogging.abortExposure false).orders.table.map (fun o => (o.holds, o.labelsOutstanding, o.exposed, o.spoiled)) =
      [(1200, 5, 3, 1)] ∧
    (after (exec .magazineRemoval fogging)).orders.table.map (fun o => (o.state, o.holds, o.labelsOutstanding)) =
      [(.cutShort .magazineRemoved, 0, 0)] ∧
    (after (exec .magazineRemoval fogging)).accounts.accounts.map (fun a => (a.spent, a.held)) = [(300, 0), (0, 0)] ∧
    (after (exec .magazineRemoval fogging)).rolls.map (fun r => (r.state, r.frames.map fun f => (f.state, f.charge))) =
      [(.fogged, [(.fogged, 400), (.fogged, 400), (.fogged, 450), (.fogged, 450), (.fogged, 450), (.spoiled, 0)] ++
        List.replicate 6 (.blank, 0))] := by
  decide

theorem witness_RemovalsFogOrClear :
    ¬ ((pulled stand).transport.detect1 = true ∧ (pulled stand).transport.detect2 = true) ∧
    (pulled (transporting .seating .off)).transport.state = .seating ∧
    (pulled (transporting .loaded .off)).transport.state = .loaded ∧
    (pulled (transporting .rewound .off)).transport.state = .rewound ∧
    (pulled (transporting .rewound .off)).transport.roll = some 88 ∧
    (pulled watched).transport.state = .ready ∧ (pulled watched).transport.roll = some 88 ∧
    ((pulled watched).orders.table.map Order.id).Nodup ∧
    (∃ o r, (pulled watched).activeOrder = some o ∧
      (((pulled watched).abortExposure false).finishOrder o.id (.cutShort .magazineRemoved)).findRoll 88 = some r) ∧
    (pulled stand).activeOrder = none ∧ (pulled stand).findRoll 88 = some roll ∧
    (pulled stand).slotOf 412 = some 0 ∧ 6 + 0 < (pulled stand).store.dirty.length :=
  ⟨by decide, by decide, by decide, by decide, by decide, by decide, by decide, by decide, ⟨_, _, rfl, rfl⟩, by decide,
    by decide, by decide, by decide⟩

theorem witness_PulsesAndStallsMoveTheFilm :
    stand.transport.motor = .off ∧
    ((transporting .rewinding .reverse).transport.motor = .reverse ∧
      (transporting .rewinding .reverse).transport.state = .rewinding) ∧
    ((transporting .leader .forward).transport.motor = .forward ∧ (transporting .leader .forward).transport.state = .leader ∧
      { (transporting .leader .forward).transport with pulseCount := 14 }.pulseCount + 1 < 16 ∧
      { (transporting .leader .forward).transport with pulseCount := 15 }.pulseCount = 15) ∧
    ((advancing 7 10).transport.motor = .forward ∧ (advancing 7 10).transport.state = .advancing ∧
      (advancing 6 10).transport.pulseCount + 1 < 8 ∧ (advancing 7 10).transport.pulseCount = 7) := by decide

theorem witness_RollsAreReportedAndClosed :
    (processed []).power.phase = .listening ∧ (processed []).line.station ≠ 0 ∧ (processed []).line.inService = none ∧
    93 = (0 : Byte).toNat * 256 + (93 : Byte).toNat ∧ (processed []).findRoll 94 = none ∧
    ((processed []).findRoll 93).map Roll.state = some .out ∧ (stand.findRoll 88).map Roll.state = some .inCamera ∧
    (keptStand.findRoll 93).map Roll.state = some (.keepReported [49, 52, 48, 54, 49, 49]) ∧
    (∃ e ∈ keptStand.labels.queue, e.roll = 93) ∧ ((processed []).orders.table.map Order.id).Nodup := by decide

theorem witness_KeepReportSettlesTheRoll :
    (processed []).power.phase = .listening ∧ (processed []).line.station ≠ 0 ∧ (processed []).line.inService = none ∧
    keep93.length ≤ 63 ∧ keepLengthOk keep93 = true ∧
    ((readKeep keep93).roll ≠ 0 ∧ (readKeep keep93).date.length = 6 ∧ (readKeep keep93).kept.length ≤ 40 ∧
      ∀ n ∈ (readKeep keep93).kept, 1 ≤ n ∧ n ≤ 40) ∧
    ((processed []).findRoll (readKeep keep93).roll).map Roll.state = some .out ∧
    keepLengthOk [0, 93, 6, 49, 52, 48, 54, 49, 49, 1, 41] = true ∧
    ¬ (∀ n ∈ (readKeep [0, 93, 6, 49, 52, 48, 54, 49, 49, 1, 41]).kept, 1 ≤ n ∧ n ≤ 40) ∧
    stand.findRoll (readKeep keep93).roll = none ∧ (stand.findRoll 88).map Roll.state = some .inCamera ∧
    ((processed []).orders.table.map Order.id).Nodup := by decide

theorem witness_PrinterFollowsItsEvents :
    (printing [⟨93, 1, 720⟩] (.sending [65, 12] 0)).labels.printer = .sending [65, 12] 0 ∧
    (printing [⟨93, 1, 720⟩] (.sending [65, 12] 1)).labels.printer = .sending [65, 12] 1 ∧
    (printing [⟨93, 1, 720⟩] (.feeding [65, 12] 1)).labels.printer = .feeding [65, 12] 1 ∧
    (printing [⟨93, 1, 720⟩] (.feeding [65, 12] 1)).labels.queue = ⟨93, 1, 720⟩ :: [] ∧
    (printing [⟨93, 1, 720⟩] (.feeding [65, 12] 1)).findOrder 720 = some order ∧ stand.running = true ∧
    stand.labels.printer = .idle ∧ (printing [] .stockOut).labels.printer = .stockOut ∧
    { stand with power := ⟨.held, false⟩ }.running = false ∧
    (printing [] (.faulted .fedTimeout)).labels.printer = .faulted .fedTimeout := by decide

theorem witness_LabelRequestsAndLabels :
    (stand.power.phase = .listening ∧ stand.line.station ≠ 0 ∧ stand.line.inService = none) ∧
    ([72, 85, 77, 76, 73, 66, 49, 50] : List Byte).length = (8 : Byte).toNat ∧
    stand.labels.printer = .idle ∧ (printing [] .stockOut).labels.printer = .stockOut ∧
    (printing [] .stockOut).labels.stockHigh = true ∧ (printing [] .stockOut).labels.faultHigh = true ∧
    { (printing [] .stockOut).labels with stockHigh := false }.stockHigh = false ∧
    keptStand.labels.mark = some [72, 85, 77, 76, 73, 66] ∧ (keptStand.findOrder 720).isSome = true ∧
    (keptStand.findRoll 93).map Roll.state = some (.keepReported [49, 52, 48, 54, 49, 49]) ∧
    ((keptStand.findRoll 93).map fun r => (r.frames[3 - 1]?).isSome) = some true := by decide

theorem witness_AccountsAreSet :
    stand.free ∧ ([1, 156, 0, 0, 0, 13, 12, 0, 0, 1, 0] : List Byte).length = 11 ∧
    412 = pairAt [1, 156, 0, 0, 0, 13, 12, 0, 0, 1, 0] 0 ∧ 3340 = quadAt [1, 156, 0, 0, 0, 13, 12, 0, 0, 1, 0] 3 ∧
    stand.accounts.slots[0]? = some (some account) ∧ account.number = 412 ∧ account.spent + account.held = 3340 ∧
    (3339 < account.spent + account.held) ∧ (∀ m ∈ stand.accounts.slots, ∀ a ∈ m, a.number ≠ 7) ∧
    stand.accounts.slots[1]? = some none ∧ (∀ j, j < 1 → stand.accounts.slots[j]? ≠ some none) ∧ 9999999 < 10000000 :=
  ⟨stand_free, by decide⟩

theorem witness_AccountsAreReportedClosedAndReset :
    stand.free ∧ 412 = (1 : Byte).toNat * 256 + (156 : Byte).toNat ∧ 9999 < (39 : Byte).toNat * 256 + (16 : Byte).toNat ∧
    stand.accounts.slots[0]? = some (some account) ∧ account.held ≠ 0 ∧ stand.accounts.key.reading = false ∧
    keyed.accounts.key.reading = true ∧ keyed.findAccount 412 ≠ none ∧ keyed.findAccount 413 = none ∧
    (keyed.accounts.accounts.map Account.number).Nodup ∧ keyed.accounts.slots.length = 32 :=
  ⟨stand_free, by decide⟩

end Sys2Proof.Tests
end

section
/-! PROOFS. A request at a free port is taken at once and leaves there the reply its owner fixed; Order Report (R25): which
record it names, where the record stands, and how it is laid out. -/

namespace Sys2Proof.Machine

/-! ## A request at a free port -/

/-- A free port delivers a whole frame into service (R179). -/
theorem State.arrive_of_free {s : State} (h : s.free) (kind : Nat) {body : List Byte}
    (hfits : body.length ≤ Config.maxBody) : s.arrive kind body = s.frameDone.takeRequest ⟨kind, body⟩ := by
  obtain ⟨hphase, hstation, hservice⟩ := h
  have hopen : (!s.listening || decide (s.line.station = 0)) = false := by simpa [listening, hphase] using hstation
  have hdeliver : s.dropFrame.deliver ⟨kind, body⟩ = s.dropFrame.takeRequest ⟨kind, body⟩ := by
    simp [deliver, dropFrame, hservice]
  simp only [arrive, hopen, Nat.not_lt.mpr hfits, hdeliver, Bool.false_eq_true, if_false]
  rfl

/-- A request of a known kind and the right length goes to its owner (R184). -/
theorem serve_of_lengthOk {kind : Nat} {body : List Byte} (hkind : isRequestKind kind = true)
    (hlength : lengthOk kind body = true) (s : State) : serve ⟨kind, body⟩ s = serveChecked kind body s := by
  simp [serve, hkind, hlength]

/-- What a well-formed request leaves at a free port: the answer of its owner, on the state its owner leaves. -/
theorem State.arrive_eq_answered {s t : State} {kind : Nat} {body reply : List Byte} {result : Result} (h : s.free)
    (hkind : isRequestKind kind = true) (hlength : lengthOk kind body = true)
    (hfits : body.length ≤ Config.maxBody)
    (howner : serveChecked kind body s.frameDone = (⟨result, reply⟩, t)) (hline : t.line = s.frameDone.line) :
    s.arrive kind body = t.answered kind result reply := by
  have hframe : t.line.assembly = .unaddressed ∧ t.line.gap = 0 := by simp [hline, frameDone]
  obtain ⟨hassembly, hgap⟩ := hframe
  rw [arrive_of_free h kind hfits]
  simp only [takeRequest, serve_of_lengthOk hkind hlength, howner, answered, withLine, hassembly, hgap]

/-! ## Order Report: the record named and its position -/

/-- Id 0 names the active order, any other id the order of the table; without a record the answer is NO_SUCH. -/
theorem serveOrderReport_eq {body : List Byte} {s : State} {named : Option Order}
    (hid : pairAt body 0 ≠ 0 → s.findOrder (pairAt body 0) = named)
    (hactive : pairAt body 0 = 0 → s.activeOrder = named) :
    serveOrderReport body s =
      named.elim (s.refuse .noSuch) fun o => s.answer (o.report (s.positionOf o.id)) := by
  have hnamed : (if pairAt body 0 = 0 then s.activeOrder else s.findOrder (pairAt body 0)) = named :=
    ite_eq_iff'.mpr ⟨hactive, hid⟩
  simp only [serveOrderReport, hnamed]
  cases named <;> rfl

/-- With ids distinct, the record at an index of the table is the first of its id, so its position counts from 1. -/
theorem State.positionOf_eq {s : State} {o : Order} {index : Nat} (hdistinct : (s.orders.table.map Order.id).Nodup)
    (hat : s.orders.table[index]? = some o) : s.positionOf o.id = index + 1 := by
  obtain ⟨hlt, rfl⟩ := List.getElem?_eq_some_iff.mp hat
  have hearlier : ∀ (j : Nat) (hj : j < index), s.orders.table[j].id ≠ s.orders.table[index].id := fun j hj heq =>
    absurd ((hdistinct.getElem_inj_iff (hi := by simp; omega) (hj := by simpa)).mp (by simpa using heq)) hj.ne
  have hfirst : s.orders.table.findIdx (fun p => p.id = s.orders.table[index].id) = index :=
    (List.findIdx_eq hlt).mpr ⟨by simp, fun j hj => by simpa using hearlier j hj⟩
  simp only [positionOf, hfirst]

/-! ## Order Report: the layout of 12.5 -/

theorem flagField_eq (b : Bool) : flagField b = byteField (if b then 1 else 0) := by cases b <;> rfl

theorem flatMap_signedByteField (zs : List Int) : zs.flatMap signedByteField = zs.map (BitVec.ofInt 8) :=
  List.flatMap_pure_eq_map _ _

/-! ## Order Report: the answer -/

theorem exec_orderReport (body : List Byte) (s : State) :
    exec (.orderReport body) s = .next (s.arrive 18 body) := rfl

/-- An Order Report at a free port: NO_SUCH without a record, else the record at its position; only the port changes. -/
theorem exec_orderReport_eq {a b : Byte} {s : State} {named : Option Order} (h : s.free)
    (hid : a.toNat * 256 + b.toNat ≠ 0 → s.findOrder (a.toNat * 256 + b.toNat) = named)
    (hactive : a.toNat * 256 + b.toNat = 0 → s.activeOrder = named) :
    exec (.orderReport [a, b]) s = .next
      (named.elim (s.answered 18 .noSuch []) fun o => s.answered 18 .done (o.report (s.positionOf o.id))) := by
  have howner := serveOrderReport_eq (body := [a, b]) (s := s.frameDone) hid hactive
  have hfits : [a, b].length ≤ Config.maxBody := by simp [Config.maxBody]
  rw [exec_orderReport]
  congr 1
  cases named with
  | none => exact State.arrive_eq_answered (t := s.frameDone) h rfl rfl hfits howner rfl
  | some o => exact State.arrive_eq_answered (t := s.frameDone) h rfl rfl hfits howner rfl

/-- Settles O26: the record named, the position by the distinct ids, and the layout field by field. -/
theorem orderReportShowsTheRecord : Obligations.OrderReportShowsTheRecord := by
  rintro a b id s hfree rfl
  refine ⟨fun hid hactive => exec_orderReport_eq (named := none) hfree hid hactive,
    fun o index hid hactive hdistinct hat => ?_⟩
  rw [exec_orderReport_eq (named := some o) hfree hid hactive, Option.elim_some, State.positionOf_eq hdistinct hat]
  refine congrArg (fun report => Host.Outcome.next (s.answered 18 .done report)) ?_
  unfold Order.report
  simp only [textField, flagField_eq, flatMap_signedByteField, ← List.append_assoc]
  cases o.plan with
  | none => rfl
  | some entries => rfl

end Sys2Proof.Machine
end

section
/-! PROOFS. The figures of Read Film Kind and Read Rates (R46, R144), and the exposure arithmetic of chapter 3: the log
function by its octaves (R49), rounding to nearest (R51), time(s) by its whole stops (R53), and the choice of the lamp
step (R55, R56). -/

namespace Sys2Proof.Machine

/-! ## Read Film Kind and Read Rates -/

theorem exec_readFilmKind (body : List Byte) (s : State) :
    exec (.readFilmKind body) s = .next (s.arrive 49 body) := rfl

theorem exec_readRates (body : List Byte) (s : State) :
    exec (.readRates body) s = .next (s.arrive 85 body) := rfl

theorem serveReadFilmKind_eq (kind : Byte) (s : State) :
    serveReadFilmKind [kind] s =
      if 3 < kind.toNat then s.refuse .outOfRange else s.answer (filmKindReport (s.films.getD kind.toNat none)) := rfl

/-- Read Film Kind at a free port: OUT_OF_RANGE past kind 3, else the figures of the record; only the port changes. -/
theorem exec_readFilmKind_eq {s : State} (h : s.free) (kind : Byte) :
    exec (.readFilmKind [kind]) s = .next
      (if 3 < kind.toNat then s.answered 49 .outOfRange []
       else s.answered 49 .done (filmKindReport (s.films.getD kind.toNat none))) := by
  have howner := serveReadFilmKind_eq kind s.frameDone
  have hfits : [kind].length ≤ Config.maxBody := by simp [Config.maxBody]
  rw [exec_readFilmKind]
  congr 1
  split
  · exact State.arrive_eq_answered (t := s.frameDone) h rfl rfl hfits (howner.trans (if_pos ‹_›)) rfl
  · exact State.arrive_eq_answered (t := s.frameDone) h rfl rfl hfits (howner.trans (if_neg ‹_›)) rfl

/-- Read Rates at a free port: the figures of the rate card; only the port changes. -/
theorem exec_readRates_eq {s : State} (h : s.free) :
    exec (.readRates []) s = .next (s.answered 85 .done (ratesReport s.accounts.rates)) :=
  congrArg Host.Outcome.next (State.arrive_eq_answered (t := s.frameDone) h rfl rfl (Nat.zero_le _) rfl rfl)

/-- Settles O42: each request answers with the report of the record, laid out field by field. -/
theorem filmKindsAndRatesAreRead : Obligations.FilmKindsAndRatesAreRead := by
  intro kind s hfree
  rw [exec_readFilmKind_eq hfree, exec_readRates_eq hfree]
  refine ⟨fun hkind => ?_, fun hkind hrecord => ?_, fun f hkind hrecord => ?_, fun hrates => ?_, fun r hrates => ?_⟩
  · rw [if_pos hkind]
  · rw [if_neg hkind.not_gt, hrecord]; rfl
  · rw [if_neg hkind.not_gt, hrecord]; rfl
  · rw [hrates]; rfl
  · rw [hrates]; rfl

/-! ## The log function (R49) -/

theorem usedAverage_eq_max (average : Nat) : usedAverage average = max 1 average := by
  unfold usedAverage
  split <;> omega

/-- Any value of octave e has that octave's logarithm. -/
theorem logEighths_of_octave {v e : Nat} (hle : 2 ^ e ≤ v) (hlt : v < 2 ^ (e + 1)) :
    logEighths v = 8 * e + (v - 2 ^ e) * 8 / 2 ^ e := by
  have hv : v ≠ 0 := (Nat.two_pow_pos e |>.trans_le hle).ne'
  have he : Nat.log2 v = e := (Nat.log2_eq_iff hv).mpr ⟨hle, hlt⟩
  simp only [logEighths, he]

/-- Every value from 1 on has an octave. -/
theorem exists_octave {v : Nat} (hv : 1 ≤ v) : ∃ e, 2 ^ e ≤ v ∧ v < 2 ^ (e + 1) :=
  ⟨Nat.log2 v, (Nat.log2_eq_iff (Nat.one_le_iff_ne_zero.mp hv)).mp rfl⟩

/-- The fraction of R49 is rounded down, so it is below n just when the unrounded one is. -/
theorem eighths_lt_iff {v e n : Nat} : (v - 2 ^ e) * 8 / 2 ^ e < n ↔ (v - 2 ^ e) * 8 < n * 2 ^ e :=
  Nat.div_lt_iff_lt_mul (Nat.two_pow_pos e)

theorem eighths_le_seven {v e : Nat} (hlt : v < 2 ^ (e + 1)) : (v - 2 ^ e) * 8 / 2 ^ e ≤ 7 := by
  have hfraction : (v - 2 ^ e) * 8 / 2 ^ e < 8 := eighths_lt_iff.mpr (by rw [pow_succ] at hlt; omega)
  omega

/-- The smallest value of eighth f of an octave from the third on: its place in the octave, and its logarithm. -/
theorem logEighths_eighth {e f : Nat} (he : 3 ≤ e) (hf : f ≤ 7) :
    logEighths (2 ^ e + f * 2 ^ (e - 3)) = 8 * e + f := by
  have heighth : 2 ^ 3 * 2 ^ (e - 3) = 2 ^ e := pow_mul_pow_sub 2 he
  have hwithin : f * 2 ^ (e - 3) ≤ 7 * 2 ^ (e - 3) := Nat.mul_le_mul_right _ hf
  have hpos := Nat.two_pow_pos (e - 3)
  have hfraction : f * 2 ^ (e - 3) * 8 = f * 2 ^ e := by rw [← heighth]; ring
  rw [logEighths_of_octave (Nat.le_add_right _ _) (by rw [pow_succ]; omega), Nat.add_sub_cancel_left, hfraction,
    Nat.mul_div_cancel _ (Nat.two_pow_pos e)]

/-- Below the smallest value of an eighth the logarithm is smaller: by the octave, or by the fraction in it. -/
theorem logEighths_lt_of_lt_eighth {e f v : Nat} (he : 3 ≤ e) (hf : f ≤ 7) (hv : 1 ≤ v)
    (hbelow : v < 2 ^ e + f * 2 ^ (e - 3)) : logEighths v < 8 * e + f := by
  have heighth : 2 ^ 3 * 2 ^ (e - 3) = 2 ^ e := pow_mul_pow_sub 2 he
  have hwithin : f * 2 ^ (e - 3) ≤ 7 * 2 ^ (e - 3) := Nat.mul_le_mul_right _ hf
  obtain ⟨d, hle, hlt⟩ := exists_octave hv
  have hoctave : d < e + 1 := (Nat.pow_lt_pow_iff_right Nat.one_lt_two).mp (hle.trans_lt (by rw [pow_succ]; omega))
  have hseven := eighths_le_seven hlt
  rw [logEighths_of_octave hle hlt]
  rcases Nat.lt_succ_iff_lt_or_eq.mp hoctave with hearlier | rfl
  · omega
  · have hfraction : (v - 2 ^ d) * 8 / 2 ^ d < f := eighths_lt_iff.mpr (by
      rw [← heighth] at hbelow hle ⊢
      calc (v - 2 ^ 3 * 2 ^ (d - 3)) * 8 < f * 2 ^ (d - 3) * 8 := by omega
        _ = f * (2 ^ 3 * 2 ^ (d - 3)) := by ring)
    omega

theorem ageingTerm_eq (cal : StandCalibration) (ref : Nat) :
    ageingTerm cal ref = (logEighths cal.refCal : Int) - logEighths (max 1 ref) := by
  rw [ageingTerm, usedAverage_eq_max]

theorem measuredOffset_eq (candidate reference : Nat) :
    measuredOffset candidate reference = (logEighths (max 1 candidate) : Int) - logEighths (max 1 reference) := by
  rw [measuredOffset, usedAverage_eq_max, usedAverage_eq_max]

/-- A channel density is its difference of logarithms clamped to 0 to 79 (R50). -/
theorem density_eq_clamp (baseline average : Nat) (ageing : Int) :
    (density baseline average ageing : Int) =
      max 0 (min 79 ((logEighths baseline : Int) - logEighths (max 1 average) - ageing)) := by
  simp only [density, usedAverage_eq_max]
  split_ifs <;> omega

/-- Settles O32: the octave of each value, the smallest value of each eighth, and the three places of use. -/
theorem logOfAverages : Obligations.LogOfAverages := by
  refine ⟨fun v hv htop => ?_, fun e f he _ hf =>
    ⟨logEighths_eighth he hf, fun v hv => logEighths_lt_of_lt_eighth he hf hv⟩, by decide, by decide, by decide,
    fun v hv htop => ?_, ageingTerm_eq, measuredOffset_eq, density_eq_clamp⟩
  · obtain ⟨e, hle, hlt⟩ := exists_octave hv
    have hoctave : e < 10 := (Nat.pow_lt_pow_iff_right Nat.one_lt_two).mp (hle.trans_lt (by omega))
    exact ⟨e, _, hle, hlt, by omega, rfl, eighths_le_seven hlt, logEighths_of_octave hle hlt⟩
  · rw [logEighths_of_octave (e := 9) (by omega) (by omega)]
    omega

/-! ## The weighted density (R51) -/

/-- A quotient of half the divisor more is within half a divisor of the exact one: halves go up. -/
theorem roundedQuotient_bounds {sum w d : Nat} (hw : 1 ≤ w) (hd : d = (sum + w / 2) / w) :
    2 * (w * d) ≤ 2 * sum + w ∧ 2 * sum + w < 2 * (w * (d + 1)) := by
  have hle : w * d ≤ sum + w / 2 := hd ▸ Nat.mul_div_le _ _
  have hlt : sum + w / 2 < w * (d + 1) := hd ▸ Nat.lt_mul_div_succ _ hw
  omega

/-- The mean of densities of at most 79 is at most 79. -/
theorem weightedDensity_le {f : FilmKind} {dr dg db : Nat} (hw : 1 ≤ f.wr + f.wg + f.wb) (hr : dr ≤ 79)
    (hg : dg ≤ 79) (hb : db ≤ 79) : weightedDensity f dr dg db ≤ 79 := by
  have hred := Nat.mul_le_mul_left f.wr hr
  have hgreen := Nat.mul_le_mul_left f.wg hg
  have hblue := Nat.mul_le_mul_left f.wb hb
  exact Nat.lt_succ_iff.mp ((Nat.div_lt_iff_lt_mul hw).mpr (by omega))

/-- Settles O34: rounding to nearest of the weighted sum, in which a channel of weight 0 contributes 0. -/
theorem weightedDensityIsTheRoundedMean : Obligations.WeightedDensityIsTheRoundedMean := by
  rintro f dr dg db w sum rfl hw rfl
  obtain ⟨hlower, hupper⟩ := roundedQuotient_bounds hw rfl
  refine ⟨rfl, hlower, hupper, weightedDensity_le hw, fun x => ⟨fun hr => ?_, fun hg => ?_, fun hb => ?_⟩⟩
  · simp only [weightedDensity, hr, Nat.zero_mul]
  · simp only [weightedDensity, hg, Nat.zero_mul]
  · simp only [weightedDensity, hb, Nat.zero_mul]

/-! ## time(s) (R53) -/

theorem fractionFactor_mono : ∀ r, r < 7 → fractionFactor r ≤ fractionFactor (r + 1) := by decide

theorem fractionFactor_eq_getD :
    ∀ r, r ≤ 7 → fractionFactor r = [1000, 1091, 1189, 1297, 1414, 1542, 1682, 1834].getD r 0 := by decide

/-- time(s) at q whole stops and r eighths. -/
theorem timeOf_stops (tref : Nat) (q : Int) {r : Nat} (hr : r ≤ 7) :
    timeOf tref (8 * q + r) =
      if 0 ≤ q then (tref * fractionFactor r * 2 ^ q.toNat + 500) / 1000
      else (tref * fractionFactor r + 500 * 2 ^ (-q).toNat) / (1000 * 2 ^ (-q).toNat) := by
  have hwhole : (8 * q + r) / 8 = q := by omega
  have heighths : ((8 * q + r) % 8).toNat = r := by omega
  simp only [timeOf, hwhole, heighths, ge_iff_le]
  split
  · rfl
  · rw [mul_comm 1000, Nat.mul_div_assoc _ (by decide), mul_comm _ (1000 / 2)]

/-- n whole stops up multiply the time. -/
theorem timeOf_stops_up (tref n : Nat) {r : Nat} (hr : r ≤ 7) :
    timeOf tref (8 * n + r) = (tref * fractionFactor r * 2 ^ n + 500) / 1000 := by
  rw [timeOf_stops tref n hr, if_pos (Int.natCast_nonneg n), Int.toNat_natCast]

/-- n whole stops down divide the time. -/
theorem timeOf_stops_down (tref n : Nat) {r : Nat} (hr : r ≤ 7) :
    timeOf tref (8 * -n + r) = (tref * fractionFactor r + 500 * 2 ^ n) / (1000 * 2 ^ n) := by
  cases n with
  | zero => simpa using timeOf_stops_up tref 0 hr
  | succ n => rw [timeOf_stops tref _ hr, if_neg (by omega), neg_neg, Int.toNat_natCast]

/-- One eighth more inside a stop does not shorten the time. -/
theorem timeOf_le_next_eighth (tref : Nat) (q : Int) {r : Nat} (hr : r < 7) :
    timeOf tref (8 * q + r) ≤ timeOf tref (8 * q + (r + 1 : Nat)) := by
  have hfactor : tref * fractionFactor r ≤ tref * fractionFactor (r + 1) :=
    Nat.mul_le_mul_left tref (fractionFactor_mono r hr)
  rw [timeOf_stops tref q hr.le, timeOf_stops tref q hr]
  split
  · gcongr
  · gcongr

/-- The next whole stop does not shorten the time of 7 eighths. -/
theorem timeOf_le_next_stop (tref : Nat) (q : Int) : timeOf tref (8 * q + 7) ≤ timeOf tref (8 * (q + 1)) := by
  obtain ⟨n, rfl | rfl⟩ : ∃ n : Nat, q = n ∨ q = -(n + 1 : Nat) := ⟨(max q (-q - 1)).toNat, by omega⟩
  · calc timeOf tref (8 * n + 7) = (tref * 1834 * 2 ^ n + 500) / 1000 := timeOf_stops_up tref n (r := 7) le_rfl
      _ ≤ (tref * 1000 * 2 ^ (n + 1) + 500) / 1000 := by
          rw [pow_succ', ← mul_assoc]; gcongr (?_ * _ + _) / _; omega
      _ = timeOf tref (8 * (n + 1 : Nat) + (0 : Nat)) := (timeOf_stops_up tref (n + 1) (r := 0) (by omega)).symm
      _ = timeOf tref (8 * (n + 1)) := rfl
  · calc timeOf tref (8 * -(n + 1 : Nat) + 7) = (tref * 1834 + 500 * 2 ^ (n + 1)) / (1000 * 2 ^ (n + 1)) :=
          timeOf_stops_down tref (n + 1) (r := 7) le_rfl
      _ ≤ (2 * (tref * 1000 + 500 * 2 ^ n)) / (2 * (1000 * 2 ^ n)) := by rw [pow_succ]; gcongr ?_ / ?_ <;> omega
      _ = (tref * 1000 + 500 * 2 ^ n) / (1000 * 2 ^ n) := Nat.mul_div_mul_left _ _ Nat.two_pos
      _ = timeOf tref (8 * -(n : Int) + (0 : Nat)) := (timeOf_stops_down tref n (r := 0) (by omega)).symm
      _ = timeOf tref (8 * (-(n + 1 : Nat) + 1)) := by congr 1; omega

/-- time(s) does not fall as s rises. -/
theorem timeOf_mono (tref : Nat) : Monotone (timeOf tref) := by
  refine monotone_int_of_le_succ fun s => ?_
  obtain ⟨q, r, hr, rfl⟩ : ∃ (q : Int) (r : Nat), r ≤ 7 ∧ s = 8 * q + r :=
    ⟨s / 8, (s % 8).toNat, by omega, by omega⟩
  rcases hr.lt_or_eq with hinside | rfl
  · simpa [add_assoc] using timeOf_le_next_eighth tref q hinside
  · simpa [mul_add, add_assoc] using timeOf_le_next_stop tref q

/-- Settles O35: the two forms of the quotient by the sign of the whole stops, and one eighth after the other for the
order. -/
theorem exposureTimeOfStops : Obligations.ExposureTimeOfStops := by
  refine ⟨?_, fun tref s t hst => timeOf_mono tref hst, by decide⟩
  rintro tref s q r n rfl hr
  rw [← fractionFactor_eq_getD r hr]
  exact ⟨fun hq => hq ▸ timeOf_stops_up tref n hr, fun hq => hq ▸ timeOf_stops_down tref n hr⟩

/-! ## The lamp step and the time (R55, R56) -/

theorem stepOffset_eq_getD (cal : StandCalibration) :
    ∀ k, k ≤ 3 → cal.stepOffset k = ([0, cal.e1, cal.e2, cal.e3] : List Nat).getD k 0
  | 0, _ | 1, _ | 2, _ | 3, _ => rfl

/-- The step found is the first whose candidate time reaches Tmin. -/
theorem firstStep_eq_some_iff {cal : StandCalibration} {tref : Nat} {stop : Int} {k : Nat} :
    firstStep cal tref stop = some k ↔
      cal.tmin ≤ candidateTime cal tref stop k ∧ k ≤ 3 ∧ ∀ j, j < k → candidateTime cal tref stop j < cal.tmin := by
  have hsteps : [0, 1, 2, 3] = List.range 4 := rfl
  simp [firstStep, hsteps, List.find?_range_eq_some, Nat.lt_succ_iff]

theorem firstStep_eq_none_iff {cal : StandCalibration} {tref : Nat} {stop : Int} :
    firstStep cal tref stop = none ↔ ∀ k, k ≤ 3 → candidateTime cal tref stop k < cal.tmin := by
  have hsteps : [0, 1, 2, 3] = List.range 4 := rfl
  simp [firstStep, hsteps, Nat.lt_succ_iff]

/-- A step found gives its candidate time, or Tmax and UNDER where that is longer (R56). -/
theorem chooseStep_of_firstStep {cal : StandCalibration} {tref : Nat} {stop : Int} {k : Nat}
    (h : firstStep cal tref stop = some k) :
    chooseStep cal tref stop =
      if candidateTime cal tref stop k ≤ cal.tmax then (k, candidateTime cal tref stop k, false, false)
      else (k, cal.tmax, false, true) := by
  simp only [chooseStep, h, gt_iff_lt, ← not_le, ite_not]

/-- No step found gives step 3 at Tmin and OVER (R55). -/
theorem chooseStep_of_no_step {cal : StandCalibration} {tref : Nat} {stop : Int} (h : firstStep cal tref stop = none) :
    chooseStep cal tref stop = (3, cal.tmin, true, false) := by
  simp only [chooseStep, h]

/-- The time chosen lies in Tmin to Tmax. -/
theorem chooseStep_time_bounds {cal : StandCalibration} {tref : Nat} {stop : Int} (hlimits : cal.tmin ≤ cal.tmax) :
    cal.tmin ≤ (chooseStep cal tref stop).2.1 ∧ (chooseStep cal tref stop).2.1 ≤ cal.tmax := by
  cases h : firstStep cal tref stop with
  | none => rw [chooseStep_of_no_step h]; exact ⟨le_rfl, hlimits⟩
  | some k =>
    obtain ⟨hreached, -, -⟩ := firstStep_eq_some_iff.mp h
    rw [chooseStep_of_firstStep h]
    split
    · exact ⟨hreached, ‹_›⟩
    · exact ⟨hlimits, le_rfl⟩

/-- The candidate times do not fall from one step to the next where the step offsets do not. -/
theorem candidateTime_mono {cal : StandCalibration} (tref : Nat) (stop : Int) {j k : Nat}
    (h : cal.stepOffset j ≤ cal.stepOffset k) : candidateTime cal tref stop j ≤ candidateTime cal tref stop k :=
  timeOf_mono tref (by omega)

/-- Settles O36: the candidate times are in order, so the first step to reach Tmin decides, and none does where T3 is
below it. -/
theorem lampStepChoice : Obligations.LampStepChoice := by
  intro cal tref stop time hcandidates he12 he23 hlimits
  have htime : ∀ k, k ≤ 3 → time k = candidateTime cal tref stop k := fun k hk => by
    rw [hcandidates, candidateTime, stepOffset_eq_getD cal k hk]
  have hmono : ∀ j k, j ≤ 3 → k ≤ 3 → cal.stepOffset j ≤ cal.stepOffset k → time j ≤ time k :=
    fun j k hj hk hoffset => by rw [htime j hj, htime k hk]; exact candidateTime_mono tref stop hoffset
  have h01 : time 0 ≤ time 1 := hmono 0 1 (by omega) (by omega) (Nat.zero_le _)
  have h12 : time 1 ≤ time 2 := hmono 1 2 (by omega) (by omega) he12
  have h23 : time 2 ≤ time 3 := hmono 2 3 (by omega) (by omega) he23
  have hfirst : ∀ k, k ≤ 3 → cal.tmin ≤ time k → (∀ j, j < k → time j < cal.tmin) →
      chooseStep cal tref stop =
        if time k ≤ cal.tmax then (k, time k, false, false) else (k, cal.tmax, false, true) :=
    fun k hk hreached hshort => by
      rw [htime k hk] at hreached ⊢
      exact chooseStep_of_firstStep (firstStep_eq_some_iff.mpr
        ⟨hreached, hk, fun j hj => htime j (by omega) ▸ hshort j hj⟩)
  have hzero : cal.tmin ≤ time 0 → chooseStep cal tref stop =
      if time 0 ≤ cal.tmax then (0, time 0, false, false) else (0, cal.tmax, false, true) :=
    fun hreached => hfirst 0 (by omega) hreached fun j hj => absurd hj (Nat.not_lt_zero j)
  refine ⟨⟨h01, h12, h23⟩, fun hlong => ?_, fun hreached hfits => ?_, hfirst, fun hshort => ?_,
    chooseStep_time_bounds hlimits⟩
  · rw [hzero (hlimits.trans hlong.le), if_neg hlong.not_ge]
  · rw [hzero hreached, if_pos hfits]
  · refine chooseStep_of_no_step (firstStep_eq_none_iff.mpr fun k hk => ?_)
    have hlast : time k ≤ time 3 := by interval_cases k <;> omega
    exact htime k hk ▸ hlast.trans_lt hshort

end Sys2Proof.Machine
end

section
/-! PROOFS. The settings requests: Set Film Kind (R45), Set Rates (R143), Set and Read Stand Calibration (R75, R76). Each
owner refuses and changes nothing, or replaces one record, marks its place dirty and answers. -/

namespace Sys2Proof.Machine

/-! ## Fields read and sent back -/

theorem byteAt_lt (b : List Byte) (i : Nat) : byteAt b i < 256 := (b.getD i 0).isLt

/-- A pair read from a body is sent back as the same two bytes (R197). -/
theorem pairField_pairAt {b : List Byte} {i : Nat} (h : i + 2 ≤ b.length) :
    pairField (pairAt b i) = bytesAt b i 2 := by
  have hfirst : i < b.length := by omega
  have hsecond : i + 1 < b.length := by omega
  have hbytes : bytesAt b i 2 = [b.getD i 0, b.getD (i + 1) 0] := by
    rw [bytesAt, List.drop_eq_getElem_cons hfirst, List.drop_eq_getElem_cons hsecond, List.getD_eq_getElem _ _ hfirst,
      List.getD_eq_getElem _ _ hsecond]
    rfl
  have hlow := byteAt_lt b (i + 1)
  have hhigh : pairAt b i / 256 = byteAt b i := by unfold pairAt; omega
  rw [hbytes, pairField, hhigh]
  congr 2
  · simp [byteAt]
  · apply BitVec.eq_of_toNat_eq
    simp only [pairAt, BitVec.toNat_ofNat, byteAt] at hlow ⊢
    omega

/-- Bytes from a position and the bytes behind them. -/
theorem bytesAt_append (b : List Byte) (i m n : Nat) : bytesAt b i m ++ bytesAt b (i + m) n = bytesAt b i (m + n) := by
  simp [bytesAt, List.take_add]

/-- The six rates read from a body are sent back as the same twelve bytes. -/
theorem rateCardAt_fields {b : List Byte} {i : Nat} (h : i + 12 ≤ b.length) :
    (rateCardAt b i).fields = bytesAt b i 12 := by
  have hpair : ∀ k, k ≤ 10 → pairField (pairAt b (i + k)) = bytesAt b (i + k) 2 :=
    fun k hk => pairField_pairAt (by omega)
  simp only [RateCard.fields, rateCardAt, pairField_pairAt (show i + 2 ≤ b.length by omega), hpair, Nat.reduceLeDiff,
    bytesAt_append, Nat.reduceAdd]

theorem flagField_calibrated (c : StandCalibration) : flagField c.calibrated = [if c.refCal = 0 then 0 else 1] := by
  by_cases h : c.refCal = 0 <;> simp [flagField, StandCalibration.calibrated, h]

/-! ## What a settings request leaves at a free port -/

theorem lengthOk_of_fixedLength {kind n : Nat} {b : List Byte} (hfixed : fixedLength kind = some n)
    (himplied : hasImpliedLength kind = false) (hlength : b.length = n) : lengthOk kind b = true := by
  have hkinds : kind ≠ kindSetLibraryMark ∧ kind ≠ kindSubmitOrder ∧ kind ≠ kindKeepReport := by
    simpa [hasImpliedLength] using himplied
  obtain ⟨hmark, hsubmit, hkeep⟩ := hkinds
  simp [lengthOk, hmark, hsubmit, hkeep, hfixed, hlength]

section
variable {s : State} {kind : Nat} {body : List Byte}

/-- A refusal among the tests of an owner changes nothing but the port; past it, what the rest leaves counts. -/
theorem State.arrive_eq_ite_refused {t : State} {rest : Reply × State} {result : Result} {p : Prop} [Decidable p]
    (h : s.free) (hkind : isRequestKind kind = true) (hlength : lengthOk kind body = true)
    (hfits : body.length ≤ Config.maxBody)
    (howner : serveChecked kind body s.frameDone = if p then s.frameDone.refuse result else rest)
    (hrest : serveChecked kind body s.frameDone = rest → s.arrive kind body = t) :
    s.arrive kind body = if p then s.answered kind result [] else t := by
  by_cases hp : p
  · rw [if_pos hp] at howner ⊢
    exact arrive_eq_answered (t := s.frameDone) h hkind hlength hfits howner rfl
  · rw [if_neg hp] at howner ⊢
    exact hrest howner

/-- A request that has changed a record: its place is marked dirty, and it is answered DONE. -/
theorem State.arrive_eq_markDirty {u : State} {place : Nat} {reply : List Byte} (h : s.free)
    (hkind : isRequestKind kind = true) (hlength : lengthOk kind body = true) (hfits : body.length ≤ Config.maxBody)
    (howner : serveChecked kind body s.frameDone = (u.markDirty place).answer reply)
    (hline : u.line = s.frameDone.line) :
    s.arrive kind body = (u.markDirty place).answered kind .done reply :=
  arrive_eq_answered h hkind hlength hfits howner (by rw [markDirty_line, hline])

end

/-! ## Set Film Kind (R45) -/

theorem exec_setFilmKind (body : List Byte) (s : State) :
    exec (.setFilmKind body) s = .next (s.arrive 48 body) := rfl

theorem FilmKind.figuresInRange_iff (f : FilmKind) :
    f.figuresInRange = true ↔ 1 ≤ f.tref ∧ f.tref ≤ 2000 ∧ -32 ≤ f.c ∧ f.c ≤ 32 ∧ f.wr ≤ 3 ∧ f.wg ≤ 3 ∧ f.wb ≤ 3 ∧
      12 ≤ f.defaultFrames ∧ f.defaultFrames ≤ 40 := by
  simp [figuresInRange, and_assoc]

theorem State.kindInUse_iff (s : State) (kind : Nat) :
    s.kindInUse kind = true ↔
      ∃ o ∈ s.orders.table, o.filmKind = kind ∧ (o.state = .metering ∨ o.state = .exposing) := by
  simp [kindInUse]

/-- The fallback weights (0, 1, 0) differ from weights all 0 in green alone. -/
theorem FilmKind.withFallback_eq (f : FilmKind) :
    f.withFallback = { f with wg := if f.wr = 0 ∧ f.wg = 0 ∧ f.wb = 0 then 1 else f.wg } := by
  obtain ⟨tref, c, wr, wg, wb, frames⟩ := f
  by_cases hzero : wr = 0 ∧ wg = 0 ∧ wb = 0
  · obtain ⟨rfl, rfl, rfl⟩ := hzero; rfl
  · have hsum : wr + wg + wb ≠ 0 := by omega
    rw [withFallback, if_neg hsum, if_neg hzero]

/-- Set Film Kind at a free port: its refusals in order, or the record defined with its fallback weights and answered. -/
theorem exec_setFilmKind_eq {body : List Byte} {s : State} {kind : Nat} {f : FilmKind} (h : s.free)
    (hlength : body.length = 8) (hkind : kind = byteAt body 0) (hf : f = filmKindAt body 1) :
    exec (.setFilmKind body) s = .next
      (if 3 < kind ∨ ¬ f.figuresInRange = true then s.answered 48 .outOfRange []
       else if s.kindInUse kind = true then s.answered 48 .wrongState []
       else ((s.frameDone.withFilms (s.films.set kind (some f.withFallback))).markDirty (1 + kind)).answered 48 .done
         (filmKindReport (some f.withFallback))) := by
  have hok : lengthOk 48 body = true := lengthOk_of_fixedLength rfl rfl hlength
  have hfits : body.length ≤ Config.maxBody := by simp [hlength, Config.maxBody]
  have howner : serveChecked 48 body s.frameDone =
      if 3 < kind ∨ ¬ f.figuresInRange = true then s.frameDone.refuse .outOfRange
      else if s.kindInUse kind = true then s.frameDone.refuse .wrongState
      else ((s.frameDone.withFilms (s.films.set kind (some f.withFallback))).markDirty (1 + kind)).answer
        (filmKindReport (some f.withFallback)) := by
    subst hkind hf
    change serveSetFilmKind body s.frameDone = _
    simp only [serveSetFilmKind, Bool.or_eq_true, decide_eq_true_eq, Bool.not_eq_true', Bool.not_eq_true, gt_iff_lt]
    rfl
  rw [exec_setFilmKind]
  exact congrArg Host.Outcome.next <|
    State.arrive_eq_ite_refused h rfl hok hfits howner fun howner =>
    State.arrive_eq_ite_refused h rfl hok hfits howner fun howner =>
    State.arrive_eq_markDirty h rfl hok hfits howner rfl

/-! ## Set Rates (R143) -/

theorem exec_setRates (body : List Byte) (s : State) :
    exec (.setRates body) s = .next (s.arrive 84 body) := rfl

/-- Set Rates at a free port: KEY_OFF, or the rates replaced and answered. -/
theorem exec_setRates_eq {rates : List Byte} {s : State} (h : s.free) (hlength : rates.length = 12) :
    exec (.setRates rates) s = .next
      (if s.accounts.key.reading = false then s.answered 84 .keyOff []
       else ((s.frameDone.withAccounts { s.accounts with rates := some (rateCardAt rates 0) }).markDirty 5).answered 84
         .done ([1] ++ rates)) := by
  have hok : lengthOk 84 rates = true := lengthOk_of_fixedLength rfl rfl hlength
  have hfits : rates.length ≤ Config.maxBody := by simp [hlength, Config.maxBody]
  have hreport : ratesReport (some (rateCardAt rates 0)) = [1] ++ rates := by
    simp [ratesReport, flagField, rateCardAt_fields (i := 0) (b := rates) (by omega), bytesAt, hlength]
  have howner : serveChecked 84 rates s.frameDone =
      if s.accounts.key.reading = false then s.frameDone.refuse .keyOff
      else ((s.frameDone.withAccounts { s.accounts with rates := some (rateCardAt rates 0) }).markDirty 5).answer
        ([1] ++ rates) := by
    change serveSetRates rates s.frameDone = _
    simp only [serveSetRates, hreport, Bool.not_eq_true']
    rfl
  rw [exec_setRates]
  exact congrArg Host.Outcome.next <|
    State.arrive_eq_ite_refused h rfl hok hfits howner fun howner =>
    State.arrive_eq_markDirty h rfl hok hfits howner rfl

/-! ## Set and Read Stand Calibration (R75, R76) -/

theorem exec_setStandCalibration (body : List Byte) (s : State) :
    exec (.setStandCalibration body) s = .next (s.arrive 50 body) := rfl

theorem StandCalibration.settingsInRange_iff (c : StandCalibration) :
    c.settingsInRange = true ↔
      1000 ≤ c.heatLimit ∧ c.heatLimit ≤ 60000 ∧ 50 ≤ c.settle ∧ c.settle ≤ 1000 ∧
        (c.c1 < c.c0 ∧ c.c2 < c.c1 ∧ c.c3 < c.c2 ∧ 16 ≤ c.c3 ∧ c.c0 ≤ 255) ∧
        10 ≤ c.tmin ∧ c.tmin ≤ 200 ∧ 500 ≤ c.tmax ∧ c.tmax ≤ 30000 := by
  simp [settingsInRange, codesFall, and_assoc]

/-- The ranges of settings taken from a body: a lamp code read from one byte is at most 255. -/
theorem settingsInRange_withSettings_iff (c : StandCalibration) (b : List Byte) :
    (withSettings c b).settingsInRange = true ↔
      1000 ≤ pairAt b 0 ∧ pairAt b 0 ≤ 60000 ∧ 50 ≤ pairAt b 2 ∧ pairAt b 2 ≤ 1000 ∧ byteAt b 5 < byteAt b 4 ∧
        byteAt b 6 < byteAt b 5 ∧ byteAt b 7 < byteAt b 6 ∧ 16 ≤ byteAt b 7 ∧ 10 ≤ pairAt b 8 ∧ pairAt b 8 ≤ 200 ∧
        500 ≤ pairAt b 10 ∧ pairAt b 10 ≤ 30000 := by
  have hcode : byteAt b 4 ≤ 255 := Nat.le_of_lt_succ (byteAt_lt b 4)
  simp [StandCalibration.settingsInRange_iff, withSettings, hcode, and_assoc]

/-- Set Stand Calibration at a free port: its refusals in order, or the record replaced. -/
theorem exec_setStandCalibration_eq {body : List Byte} {s : State} {new : StandCalibration} (h : s.free)
    (hlength : body.length = 12)
    (hnew : new = { withSettings s.calibration body with
      refCal := if byteAt body 4 = s.calibration.c0 ∧ byteAt body 5 = s.calibration.c1 ∧
          byteAt body 6 = s.calibration.c2 ∧ byteAt body 7 = s.calibration.c3 then s.calibration.refCal else 0 }) :
    exec (.setStandCalibration body) s = .next
      (if ¬ (withSettings s.calibration body).settingsInRange = true then s.answered 50 .outOfRange []
       else if s.orders.active ≠ none then s.answered 50 .wrongState []
       else if s.exposure.state ≠ .idle ∨ s.metering.state ≠ .idle then s.answered 50 .busy []
       else ((s.frameDone.withCalibration new).markDirty 0).answered 50 .done [if new.refCal = 0 then 0 else 1]) := by
  have hok : lengthOk 50 body = true := lengthOk_of_fixedLength rfl rfl hlength
  have hfits : body.length ≤ Config.maxBody := by simp [hlength, Config.maxBody]
  have hstored : (if byteAt body 4 = s.calibration.c0 ∧ byteAt body 5 = s.calibration.c1 ∧
      byteAt body 6 = s.calibration.c2 ∧ byteAt body 7 = s.calibration.c3 then withSettings s.calibration body
      else { withSettings s.calibration body with refCal := 0 }) = new := by
    rw [hnew]; split <;> rfl
  have howner : serveChecked 50 body s.frameDone =
      if ¬ (withSettings s.calibration body).settingsInRange = true then s.frameDone.refuse .outOfRange
      else if s.orders.active ≠ none then s.frameDone.refuse .wrongState
      else if s.exposure.state ≠ .idle ∨ s.metering.state ≠ .idle then s.frameDone.refuse .busy
      else ((s.frameDone.withCalibration new).markDirty 0).answer [if new.refCal = 0 then 0 else 1] := by
    rw [← flagField_calibrated, ← hstored]
    change serveSetStandCalibration body s.frameDone = _
    simp only [serveSetStandCalibration, Bool.or_eq_true, decide_eq_true_eq, Bool.not_eq_true', Bool.not_eq_true,
      Option.isSome_iff_ne_none]
    rfl
  rw [exec_setStandCalibration]
  exact congrArg Host.Outcome.next <|
    State.arrive_eq_ite_refused h rfl hok hfits howner fun howner =>
    State.arrive_eq_ite_refused h rfl hok hfits howner fun howner =>
    State.arrive_eq_ite_refused h rfl hok hfits howner fun howner =>
    State.arrive_eq_markDirty h rfl hok hfits howner rfl

/-- Read Stand Calibration at a free port: the stored fields, the calibrated mark, the heat used and the gate; only the
port changes. -/
theorem exec_readStandCalibration_eq {s : State} (h : s.free) :
    exec (.readStandCalibration []) s = .next (s.answered 51 .done
      (s.calibration.fields ++ flagField s.calibration.calibrated ++ pairField s.exposure.heatUsed ++
        flagField s.exposure.gate.reading)) :=
  congrArg Host.Outcome.next (State.arrive_eq_answered (t := s.frameDone) h rfl rfl (Nat.zero_le _) rfl rfl)

/-! ## The settings requests -/

/-- Settles O43: each request by its answer at a free port, its tests and its record field by field. -/
theorem settingsAreSet : Obligations.SettingsAreSet := by
  refine ⟨?_, ?_⟩
  · rintro kind t1 t2 c wr wg wb frames rates s tref f card hfree hlength rfl rfl rfl
    refine ⟨?_, exec_setRates_eq hfree hlength⟩
    rw [exec_setFilmKind_eq hfree rfl rfl rfl, FilmKind.withFallback_eq]
    refine congrArg Host.Outcome.next (if_congr ?_ rfl (if_congr (s.kindInUse_iff _) rfl ?_))
    · rw [FilmKind.figuresInRange_iff]
      change 3 < kind.toNat ∨ ¬ (1 ≤ t1.toNat * 256 + t2.toNat ∧ t1.toNat * 256 + t2.toNat ≤ 2000 ∧ -32 ≤ c.toInt ∧
        c.toInt ≤ 32 ∧ wr.toNat ≤ 3 ∧ wg.toNat ≤ 3 ∧ wb.toNat ≤ 3 ∧ 12 ≤ frames.toNat ∧ frames.toNat ≤ 40) ↔ _
      omega
    · have hc : signedByteField c.toInt = [c] := by rw [signedByteField, BitVec.ofInt_toInt]
      rw [← hc]
      rfl
  · rintro body s heat settle c0 c1 c2 c3 tmin tmax new hfree hlength rfl rfl rfl rfl rfl rfl rfl rfl hnew
    simp only [Prod.mk.injEq] at hnew
    refine ⟨?_, ?_⟩
    · rw [exec_setStandCalibration_eq hfree hlength hnew]
      exact congrArg Host.Outcome.next
        (if_congr (not_congr (settingsInRange_withSettings_iff _ _)) rfl rfl)
    · rw [exec_readStandCalibration_eq hfree, flagField_calibrated]
      rfl

end Sys2Proof.Machine
end

section
/-! PROOFS. What rejected frames take from their orders and accounts (R112, R146, R148), Roll Report (R117) and Close Roll
(R115). -/

namespace Sys2Proof.Machine

/-! ## Accounts under a change of amounts -/

theorem slotHolds_map {f : Account → Account} (hnumber : ∀ a, (f a).number = a.number) (n : Nat) (slot : Option Account) :
    slotHolds n (slot.map f) = slotHolds n slot := by
  cases slot with
  | none => rfl
  | some a => simp [slotHolds, hnumber]

theorem State.findAccount_eq_none_iff {s : State} {n : Nat} :
    s.findAccount n = none ↔ ∀ slot ∈ s.accounts.slots, slotHolds n slot = false := by
  rw [findAccount, Option.join_eq_none_iff, List.find?_eq_none]
  simp only [Bool.not_eq_true, or_iff_left_iff_imp]
  intro hempty
  simpa [slotHolds] using List.find?_some hempty

/-- Every account found keeps its number, and the one named is changed. -/
theorem State.findAccount_mapAccount {f : Account → Account} (hnumber : ∀ a, (f a).number = a.number) (s : State)
    (n m : Nat) :
    (s.mapAccount n f).findAccount m = (s.findAccount m).map fun a => if a.number = n then f a else a := by
  have hchange : ∀ slot : Option Account, (if slotHolds n slot then slot.map f else slot) =
      slot.map fun a => if a.number = n then f a else a := by
    rintro (_ | a)
    · rfl
    · by_cases hn : a.number = n <;> simp [slotHolds, hn]
  have hkept : ∀ slot : Option Account,
      slotHolds m (slot.map fun a => if a.number = n then f a else a) = slotHolds m slot :=
    slotHolds_map (fun a => by split <;> simp [hnumber]) m
  simp only [findAccount, mapAccount, withAccounts_accounts, hchange, List.find?_map, Function.comp_def, hkept,
    Option.join_map_eq_map_join]

theorem State.findAccount_number {s : State} {n : Nat} {a : Account} (h : s.findAccount n = some a) : a.number = n := by
  have hslot : s.accounts.slots.find? (slotHolds n) = some (some a) := Option.join_eq_some_iff.mp h
  simpa [slotHolds] using List.find?_some hslot

/-- Without the account named nothing changes (R150, R151). -/
theorem State.mapAccount_of_findAccount_eq_none {s : State} {n : Nat} (h : s.findAccount n = none)
    (f : Account → Account) : s.mapAccount n f = s := by
  have hslots : s.accounts.slots.map (fun slot => if slotHolds n slot then slot.map f else slot) = s.accounts.slots :=
    (List.map_congr_left fun slot hslot => by simp [findAccount_eq_none_iff.mp h slot hslot]).trans (List.map_id _)
  simp only [mapAccount, hslots]
  rfl

/-- A change that leaves spent alone and raises no low mark reaches the account's record and nothing else: its place stays
as it was (R146), and no notice is raised (R152). -/
theorem State.changeAccount_eq_mapAccount {f : Account → Account} (hspent : ∀ a, (f a).spent = a.spent)
    (hlow : ∀ a, (f a).low = true → a.low = true) (s : State) (n : Nat) :
    s.changeAccount n f = s.mapAccount n f := by
  unfold changeAccount
  split
  next hnone => exact (mapAccount_of_findAccount_eq_none hnone f).symm
  next a _ =>
    have hquiet : (!a.low && (f a).low) = false := by
      by_cases hnow : (f a).low = true
      · simp [hlow a hnow]
      · simp [hnow]
    simp [hspent, noteLow, hquiet]

/-- An account after an amount has left its held (R148). -/
def Account.lowerHeld (a : Account) (amount : Nat) : Account := { a with held := a.held - amount }

@[simp] theorem Account.lowerHeld_number (a : Account) (amount : Nat) : (a.lowerHeld amount).number = a.number := rfl
@[simp] theorem Account.lowerHeld_spent (a : Account) (amount : Nat) : (a.lowerHeld amount).spent = a.spent := rfl
@[simp] theorem Account.lowerHeld_zero (a : Account) : a.lowerHeld 0 = a := rfl

theorem Account.lowerHeld_lowerHeld (a : Account) (m n : Nat) : (a.lowerHeld m).lowerHeld n = a.lowerHeld (m + n) := by
  simp only [lowerHeld, Nat.sub_sub]

/-- With less held more is available, so the low mark is not raised (R152). -/
theorem Account.low_of_lowerHeld {a : Account} {amount : Nat} (h : (a.lowerHeld amount).low = true) : a.low = true := by
  have hbelow : a.allowance - a.spent - (a.held - amount) < a.warn := of_decide_eq_true h
  exact decide_eq_true (show a.allowance - a.spent - a.held < a.warn by omega)

/-! ## Orders found and changed -/

theorem State.findOrder_some {s : State} {id : Nat} {o : Order} (h : s.findOrder id = some o) :
    o ∈ s.orders.table ∧ o.id = id :=
  ⟨List.mem_of_find?_eq_some h, by simpa using List.find?_some h⟩

/-- With ids distinct, the order found is the only one of its id. -/
theorem State.eq_of_findOrder {s : State} {id : Nat} {o q : Order} (hdistinct : (s.orders.table.map Order.id).Nodup)
    (h : s.findOrder id = some o) (hq : q ∈ s.orders.table) (hid : q.id = id) : q = o :=
  List.inj_on_of_nodup_map hdistinct hq (findOrder_some h).1 (hid.trans (findOrder_some h).2.symm)

theorem State.findOrder_mapOrder {f : Order → Order} (hid : ∀ o, (f o).id = o.id) {s : State} {id : Nat} {o : Order}
    (h : s.findOrder id = some o) : (s.mapOrder id f).findOrder id = some (f o) := by
  have hsame : ∀ q : Order, (if q.id = id then f q else q).id = q.id := fun q => by split <;> simp [hid]
  have hfind : s.orders.table.find? (fun q => q.id = id) = some o := h
  simp [findOrder, mapOrder, List.find?_map, hsame, hfind, (findOrder_some h).2]

theorem State.mapOrder_mapOrder {f g : Order → Order} (hid : ∀ o, (f o).id = o.id) (s : State) (id : Nat) :
    (s.mapOrder id f).mapOrder id g = s.mapOrder id fun o => g (f o) := by
  have hboth : ∀ q : Order, (if (if q.id = id then f q else q).id = id then g (if q.id = id then f q else q)
      else if q.id = id then f q else q) = if q.id = id then g (f q) else q := fun q => by
    by_cases hq : q.id = id <;> simp [hq, hid]
  simp only [mapOrder, withOrders, List.map_map, Function.comp_def, hboth]

/-- A release as the two records it changes (R146, R148). -/
theorem State.release_eq {s : State} {id : Nat} {o : Order} (h : s.findOrder id = some o) (part : HoldPart)
    (amount : Nat) :
    s.release id part amount = (s.mapOrder id fun q => q.lowerHold part (min amount (o.hold part))).mapAccount o.account
      fun a => a.lowerHeld (min amount (o.hold part)) := by
  simp only [release, moveHold, h, Bool.false_eq_true, if_false]
  exact changeAccount_eq_mapAccount (f := fun a => a.lowerHeld (min amount (o.hold part))) (fun _ => rfl)
    (fun _ => Account.low_of_lowerHeld) _ _

/-! ## An order that gives up labels -/

/-- An order after a number of its frames were rejected (R112): where it wants labels it owes a label less for each and
holds a label rate less. -/
def Order.giveUp (o : Order) (count : Nat) : Order :=
  if o.labels = true then
    { o with
      labelsOutstanding := o.labelsOutstanding - count
      labelHold := o.labelHold - count * o.labelRate }
  else o

/-- What an order's rejected frames take from its label hold, and so from its account's held (R146, R149). -/
def Order.givenUp (o : Order) (count : Nat) : Nat :=
  if o.labels = true then min (count * o.labelRate) o.labelHold else 0

@[simp] theorem Order.giveUp_id (o : Order) (k : Nat) : (o.giveUp k).id = o.id := by unfold giveUp; split <;> rfl
@[simp] theorem Order.giveUp_account (o : Order) (k : Nat) : (o.giveUp k).account = o.account := by
  unfold giveUp; split <;> rfl
@[simp] theorem Order.giveUp_zero (o : Order) : o.giveUp 0 = o := by simp [giveUp]
@[simp] theorem Order.givenUp_zero (o : Order) : o.givenUp 0 = 0 := by simp [givenUp]

theorem Order.giveUp_giveUp (o : Order) (j k : Nat) : (o.giveUp j).giveUp k = o.giveUp (j + k) := by
  by_cases h : o.labels = true
  · simp [giveUp, h, Nat.sub_sub, Nat.add_mul]
  · simp [giveUp, h]

theorem Order.givenUp_add (o : Order) (j k : Nat) : o.givenUp (j + k) = o.givenUp j + (o.giveUp j).givenUp k := by
  by_cases h : o.labels = true
  · simp only [givenUp, giveUp, h, if_true, Nat.add_mul]
    omega
  · simp [givenUp, giveUp, h]

/-! ## The stand when orders give up labels -/

/-- What the orders of an account give up between them, for the rejected frames of each order. -/
def State.givenUpFor (s : State) (n : Nat) (rejected : Nat → Nat) : Nat :=
  ((s.orders.table.filter fun q => q.account = n).map fun q => q.givenUp (rejected q.id)).sum

/-- What rejected frames leave, given how many each order has: the order records, the accounts' held, and nothing else. -/
structure State.GivesUp (s : State) (rejected : Nat → Nat) (t : State) : Prop where
  records : t = { s with
    orders := { s.orders with table := s.orders.table.map fun q => q.giveUp (rejected q.id) }
    accounts := t.accounts }
  held : ∀ n, t.findAccount n =
    (s.findAccount n).map fun a => a.lowerHeld (s.givenUpFor n rejected)

namespace State.GivesUp

theorem refl (s : State) : s.GivesUp (fun _ => 0) s where
  records := by simp
  held n := by simp [State.givenUpFor]

theorem table {s t : State} {rejected : Nat → Nat} (h : s.GivesUp rejected t) :
    t.orders.table = s.orders.table.map fun q => q.giveUp (rejected q.id) := by rw [h.records]

theorem line {s t : State} {rejected : Nat → Nat} (h : s.GivesUp rejected t) : t.line = s.line := by rw [h.records]

theorem nodup {s t : State} {rejected : Nat → Nat} (h : s.GivesUp rejected t)
    (hdistinct : (s.orders.table.map Order.id).Nodup) : (t.orders.table.map Order.id).Nodup := by
  simpa [h.table, Function.comp_def] using hdistinct

/-- What was given up before and what is given up after add up. -/
theorem givenUpFor_add {s t : State} {before : Nat → Nat} (h : s.GivesUp before t) (after : Nat → Nat) (n : Nat) :
    s.givenUpFor n (fun id => before id + after id) = s.givenUpFor n before + t.givenUpFor n after := by
  simp only [State.givenUpFor, h.table, List.filter_map, List.map_map, Function.comp_def, Order.giveUp_account,
    Order.giveUp_id, Order.givenUp_add, List.sum_map_add]

theorem trans {s t u : State} {before after : Nat → Nat} (first : s.GivesUp before t) (second : t.GivesUp after u) :
    s.GivesUp (fun id => before id + after id) u where
  records := by
    rw [second.records, first.table, first.records]
    simp [Function.comp_def, Order.giveUp_giveUp]
  held n := by
    simp [second.held, first.held, first.givenUpFor_add, Function.comp_def, Account.lowerHeld_lowerHeld]

end State.GivesUp

/-- With ids distinct, only the order of an id gives anything up for a frame of that id. -/
theorem State.givenUpFor_single {s : State} {id : Nat} {o : Order} (hdistinct : (s.orders.table.map Order.id).Nodup)
    (h : s.findOrder id = some o) (n : Nat) :
    s.givenUpFor n (fun i => if i = id then 1 else 0) = if o.account = n then o.givenUp 1 else 0 := by
  obtain ⟨hmem, hid⟩ := findOrder_some h
  have hothers : ∀ q, q ≠ o → q ∈ s.orders.table.filter (fun q => q.account = n) →
      q.givenUp (if q.id = id then 1 else 0) = 0 := fun q hne hq => by
    have hother : q.id ≠ id := fun heq => hne (eq_of_findOrder hdistinct h (List.mem_of_mem_filter hq) heq)
    simp [hother]
  rw [givenUpFor, List.sum_map_eq_nsmul_single o (fun q => q.givenUp (if q.id = id then 1 else 0)) hothers, if_pos hid,
    smul_eq_mul]
  split
  next haccount =>
    rw [List.count_filter (by simpa using haccount), List.count_eq_one_of_mem hdistinct.of_map hmem, one_mul]
  next haccount =>
    rw [List.count_eq_zero_of_not_mem (by simp [haccount]), zero_mul]

/-- A rejected frame of no order in the table, or of one that wants no labels, changes nothing (R112). -/
theorem State.givesUp_self {s : State} {id : Nat} (h : ∀ o ∈ s.orders.table, o.id = id → o.labels = false) :
    s.GivesUp (fun i => if i = id then 1 else 0) s := by
  have hnothing : ∀ o ∈ s.orders.table,
      o.giveUp (if o.id = id then 1 else 0) = o ∧ o.givenUp (if o.id = id then 1 else 0) = 0 := fun o ho => by
    by_cases hid : o.id = id
    · simp [Order.giveUp, Order.givenUp, h o ho hid]
    · simp [hid]
  have htable : (s.orders.table.map fun o => o.giveUp (if o.id = id then 1 else 0)) = s.orders.table :=
    (List.map_congr_left fun o ho => (hnothing o ho).1).trans (List.map_id _)
  have hsum : ∀ n, s.givenUpFor n (fun i => if i = id then 1 else 0) = 0 := fun n =>
    List.sum_eq_zero fun amount hamount => by
      obtain ⟨o, ho, rfl⟩ := List.mem_map.mp hamount
      exact (hnothing o (List.mem_of_mem_filter ho)).2
  exact ⟨by simp only [htable], fun n => by simp [hsum]⟩

/-- A report to an order that wants labels as the two records it changes (R112, R146). -/
theorem State.giveUpLabel_of_labels {s : State} {id : Nat} {o : Order} (h : s.findOrder id = some o)
    (hlabels : o.labels = true) :
    s.giveUpLabel id = (s.mapOrder id fun q =>
      { q with labelsOutstanding := q.labelsOutstanding - 1, labelHold := q.labelHold - o.givenUp 1 }).mapAccount o.account
        fun a => a.lowerHeld (o.givenUp 1) := by
  have howed : (s.oweFewerLabels id 1).findOrder id =
      some { o with labelsOutstanding := o.labelsOutstanding - 1 } :=
    findOrder_mapOrder (fun _ => by rfl) h
  have hmoved : min o.labelRate o.labelHold = o.givenUp 1 := by simp [Order.givenUp, hlabels]
  simp only [giveUpLabel, h, hlabels, if_true]
  rw [release_eq howed, oweFewerLabels, mapOrder_mapOrder (fun _ => by rfl)]
  simp only [Order.hold, Order.lowerHold, hmoved]

/-- A rejected frame of an order that wants labels takes one label and one label rate from it (R112). -/
theorem State.giveUpLabel_givesUp_of_labels {s : State} {id : Nat} {o : Order}
    (hdistinct : (s.orders.table.map Order.id).Nodup) (h : s.findOrder id = some o) (hlabels : o.labels = true) :
    s.GivesUp (fun i => if i = id then 1 else 0) (s.giveUpLabel id) := by
  have htable : (s.orders.table.map fun q => if q.id = id then
      { q with labelsOutstanding := q.labelsOutstanding - 1, labelHold := q.labelHold - o.givenUp 1 } else q) =
      s.orders.table.map fun q => q.giveUp (if q.id = id then 1 else 0) :=
    List.map_congr_left fun q hq => by
      by_cases hid : q.id = id
      · obtain rfl := eq_of_findOrder hdistinct h hq hid
        have hless : q.labelHold - min q.labelRate q.labelHold = q.labelHold - q.labelRate := by omega
        simp [hid, Order.giveUp, Order.givenUp, hlabels, hless]
      · simp [hid]
  rw [giveUpLabel_of_labels h hlabels]
  refine ⟨by rw [← htable]; rfl, fun n => ?_⟩
  rw [findAccount_mapAccount (fun _ => by rfl), givenUpFor_single hdistinct h]
  change (s.findAccount n).map _ = _
  refine Option.map_congr fun a ha => ?_
  rw [findAccount_number ha]
  by_cases haccount : n = o.account
  · simp [haccount]
  · simp [haccount, Ne.symm haccount]

/-- A rejected frame reaches the one order of its id (R112). -/
theorem State.giveUpLabel_givesUp {s : State} (hdistinct : (s.orders.table.map Order.id).Nodup) (id : Nat) :
    s.GivesUp (fun i => if i = id then 1 else 0) (s.giveUpLabel id) := by
  cases hfound : s.findOrder id with
  | none =>
    have hsame : s.giveUpLabel id = s := by simp only [giveUpLabel, hfound]
    rw [hsame]
    exact givesUp_self fun o ho hid => absurd hid (by simpa using List.find?_eq_none.mp hfound o ho)
  | some o =>
    by_cases hlabels : o.labels = true
    · exact giveUpLabel_givesUp_of_labels hdistinct hfound hlabels
    · have hsame : s.giveUpLabel id = s := by simp [giveUpLabel, hfound, hlabels]
      rw [hsame]
      exact givesUp_self fun q hq hid => by simpa [eq_of_findOrder hdistinct hfound hq hid] using hlabels

/-- Rejected frames reach their orders one after the other (R112). -/
theorem State.reportRejected_givesUp {s : State} (hdistinct : (s.orders.table.map Order.id).Nodup)
    (rejected : List (Nat × Frame)) :
    s.GivesUp (fun id => rejected.countP fun e => e.2.order = id) (s.reportRejected rejected) := by
  induction rejected generalizing s with
  | nil => exact .refl s
  | cons e rest ih =>
    have hfirst := giveUpLabel_givesUp hdistinct e.2.order
    have hcount : (fun id => (e :: rest).countP fun e => e.2.order = id) =
        fun id => (if id = e.2.order then 1 else 0) + rest.countP fun e => e.2.order = id := by
      funext id
      simp [List.countP_cons, Nat.add_comm, eq_comm]
    exact hcount ▸ hfirst.trans (ih (hfirst.nodup hdistinct))

/-! ## Roll records: the frames with their numbers, and the rolls that stay -/

theorem State.findRoll_number {s : State} {number : Nat} {r : Roll} (h : s.findRoll number = some r) :
    r.number = number := by simpa using List.find?_some h

theorem State.queueNames_iff {s : State} {number : Nat} :
    s.queueNames number = true ↔ ∃ e ∈ s.labels.queue, e.roll = number := by simp [queueNames]

theorem Roll.numbered_length (r : Roll) : r.numbered.length = r.frames.length := by simp [numbered]

theorem Roll.numbered_getElem? (r : Roll) (i : Nat) : r.numbered[i]? = r.frames[i]?.map fun f => (i + 1, f) := by
  by_cases h : i < r.frames.length
  · simp [numbered, h]
  · simp [numbered, h]

theorem Roll.countP_numbered (r : Roll) (p : Frame → Bool) :
    (r.numbered.countP fun e => p e.2) = r.frames.countP p := by
  have hframes : r.numbered.map Prod.snd = r.frames := List.map_snd_zip (by simp)
  rw [← hframes, List.countP_map]
  rfl

/-- A close keeps no frame: it rejects every EXPOSED one (R115). -/
theorem Roll.countP_rejectedBy_nil (r : Roll) (p : Frame → Bool) :
    ((r.rejectedBy []).countP fun e => p e.2) = r.frames.countP fun f => p f && decide (f.state = .exposed) := by
  rw [rejectedBy, List.countP_filter, ← countP_numbered]
  simp

theorem Roll.rejectedBy_nil_length (r : Roll) :
    (r.rejectedBy []).length = r.frames.countP fun f => f.state = .exposed := by
  simpa using r.countP_rejectedBy_nil fun _ => true

/-! ## Roll Report (R117) -/

/-- A stretch of a list, place by place. -/
theorem flatMap_take_drop {α β : Type} (l : List α) (g : α → List β) (m n : Nat) :
    ((l.drop m).take n).flatMap g = (List.range n).flatMap fun i => (l[m + i]?).elim [] g := by
  induction n with
  | zero => simp
  | succ n ih =>
    rw [List.take_add_one, List.flatMap_append, ih, List.range_succ, List.flatMap_append, List.getElem?_drop]
    cases h : l[m + n]? <;> simp [h]

theorem Roll.page_length (r : Roll) (page : Nat) : (r.page page).length = min 10 (r.frames.length - 10 * page) := by
  simp [Roll.page, numbered_length]

/-- The entries of a page by their places (R117). -/
theorem Roll.page_flatMap (r : Roll) (page : Nat) (g : Nat × Frame → List Byte) :
    (r.page page).flatMap g = (List.range 10).flatMap fun i =>
      (r.frames[10 * page + i]?).elim [] fun f => g (10 * page + i + 1, f) := by
  simp only [Roll.page, flatMap_take_drop, numbered_getElem?, Option.elim_map, Function.comp_def]

theorem RollState.date_field (state : RollState) :
    textField state.date = match state with
      | .keepReported d => byteField d.length ++ d
      | .inCamera | .out | .fogged => [0] := by
  cases state <;> rfl

theorem exec_rollReport (body : List Byte) (s : State) :
    exec (.rollReport body) s = .next (s.arrive 34 body) := rfl

/-- A Roll Report at a free port: its refusals in order, or the report of the page; only the port changes. -/
theorem exec_rollReport_eq {s : State} (h : s.free) (a b page : Byte) :
    exec (.rollReport [a, b, page]) s = .next
      (if 3 < page.toNat then s.answered 34 .outOfRange []
       else (s.findRoll (a.toNat * 256 + b.toNat)).elim (s.answered 34 .noSuch []) fun r =>
         s.answered 34 .done (r.report page.toNat)) := by
  have hfits : [a, b, page].length ≤ Config.maxBody := by simp [Config.maxBody]
  have howner : serveChecked 34 [a, b, page] s.frameDone =
      if 3 < page.toNat then s.frameDone.refuse .outOfRange
      else match s.findRoll (a.toNat * 256 + b.toNat) with
        | none => s.frameDone.refuse .noSuch
        | some r => s.frameDone.answer (r.report page.toNat) := rfl
  rw [exec_rollReport]
  refine congrArg Host.Outcome.next (State.arrive_eq_ite_refused h rfl rfl hfits howner fun howner => ?_)
  cases hroll : s.findRoll (a.toNat * 256 + b.toNat) with
  | none => exact State.arrive_eq_answered (t := s.frameDone) h rfl rfl hfits (by rw [howner, hroll]; rfl) rfl
  | some r => exact State.arrive_eq_answered (t := s.frameDone) h rfl rfl hfits (by rw [howner, hroll]; rfl) rfl

/-! ## Close Roll (R115) -/

theorem exec_closeRoll (body : List Byte) (s : State) :
    exec (.closeRoll body) s = .next (s.arrive 36 body) := rfl

/-- A Close Roll at a free port leaves the answer of its owner. -/
theorem exec_closeRoll_of_owner {s t : State} {a b : Byte} {result : Result} {reply : List Byte} (h : s.free)
    (howner : serveCloseRoll [a, b] s.frameDone = (⟨result, reply⟩, t)) (hline : t.line = s.frameDone.line) :
    exec (.closeRoll [a, b]) s = .next (t.answered 36 result reply) := by
  have hfits : [a, b].length ≤ Config.maxBody := by simp [Config.maxBody]
  exact congrArg Host.Outcome.next (State.arrive_eq_answered (kind := 36) h rfl rfl hfits howner hline)

/-- A roll that is only removed: nothing else changes but the port, and no frame is rejected. -/
theorem exec_closeRoll_of_removed {s : State} {a b : Byte} {number : Nat} (h : s.free)
    (howner : serveCloseRoll [a, b] s.frameDone = (s.frameDone.removeRoll number).answer (byteField 0)) :
    exec (.closeRoll [a, b]) s = .next ((s.removeRoll number).answered 36 .done [0]) :=
  exec_closeRoll_of_owner (t := s.frameDone.removeRoll number) h howner rfl

section
variable {s : State} {body : List Byte} {r : Roll}

theorem serveCloseRoll_none (h : s.findRoll (pairAt body 0) = none) : serveCloseRoll body s = s.refuse .noSuch := by
  simp only [serveCloseRoll, h]

theorem serveCloseRoll_inCamera (h : s.findRoll (pairAt body 0) = some r) (hstate : r.state = .inCamera) :
    serveCloseRoll body s = s.refuse .wrongState := by
  simp only [serveCloseRoll, h, hstate]

theorem serveCloseRoll_fogged (h : s.findRoll (pairAt body 0) = some r) (hstate : r.state = .fogged) :
    serveCloseRoll body s = (s.removeRoll (pairAt body 0)).answer (byteField 0) := by
  simp only [serveCloseRoll, h, hstate, State.findRoll_number h]

theorem serveCloseRoll_named {d : Text} (h : s.findRoll (pairAt body 0) = some r) (hstate : r.state = .keepReported d)
    (hnamed : ∃ e ∈ s.labels.queue, e.roll = pairAt body 0) : serveCloseRoll body s = s.refuse .wrongState := by
  simp only [serveCloseRoll, h, hstate, State.findRoll_number h, State.queueNames_iff.mpr hnamed, if_true]

theorem serveCloseRoll_unnamed {d : Text} (h : s.findRoll (pairAt body 0) = some r) (hstate : r.state = .keepReported d)
    (hunnamed : ∀ e ∈ s.labels.queue, e.roll ≠ pairAt body 0) :
    serveCloseRoll body s = (s.removeRoll (pairAt body 0)).answer (byteField 0) := by
  have hnot : ¬ s.queueNames (pairAt body 0) = true := fun hnamed =>
    have ⟨e, he, hroll⟩ := State.queueNames_iff.mp hnamed
    hunnamed e he hroll
  simp only [serveCloseRoll, h, hstate, State.findRoll_number h, if_neg hnot]

theorem serveCloseRoll_out (h : s.findRoll (pairAt body 0) = some r) (hstate : r.state = .out) :
    serveCloseRoll body s = ((s.reportRejected (r.rejectedBy [])).removeRoll (pairAt body 0)).answer
      (byteField (r.rejectedBy []).length) := by
  simp only [serveCloseRoll, h, hstate, State.findRoll_number h]

end

/-- What the frames of a roll give up when it is closed OUT: all the EXPOSED ones are rejected. -/
theorem State.reportRejected_close {s : State} (hdistinct : (s.orders.table.map Order.id).Nodup) (r : Roll) :
    s.GivesUp (fun id => r.frames.countP fun f => f.state = .exposed ∧ f.order = id)
      (s.reportRejected (r.rejectedBy [])) := by
  have hcount : (fun id => (r.rejectedBy []).countP fun e => e.2.order = id) =
      fun id => r.frames.countP fun f => f.state = .exposed ∧ f.order = id := by
    funext id
    rw [Roll.countP_rejectedBy_nil r fun f => f.order = id]
    simp only [Bool.decide_and, Bool.and_comm]
  exact hcount ▸ reportRejected_givesUp hdistinct _

/-- A roll closed OUT: its EXPOSED frames are rejected, then the record is removed. -/
theorem exec_closeRoll_out {s : State} {a b : Byte} {r : Roll} (h : s.free)
    (hdistinct : (s.orders.table.map Order.id).Nodup) (hroll : s.findRoll (a.toNat * 256 + b.toNat) = some r)
    (hstate : r.state = .out) :
    ∃ u, s.frameDone.GivesUp (fun id => r.frames.countP fun f => f.state = .exposed ∧ f.order = id) u ∧
      exec (.closeRoll [a, b]) s = .next ((u.removeRoll (a.toNat * 256 + b.toNat)).answered 36 .done
        (byteField (r.frames.countP fun f => f.state = .exposed))) := by
  have hgives := State.reportRejected_close (s := s.frameDone) hdistinct r
  have howner := serveCloseRoll_out (s := s.frameDone) (body := [a, b]) hroll hstate
  rw [Roll.rejectedBy_nil_length] at howner
  exact ⟨_, hgives, exec_closeRoll_of_owner h howner hgives.line⟩

/-! ## Rolls reported and closed -/

/-- Roll Report, laid out field by field. -/
theorem Roll.report_eq (r : Roll) (page : Nat) :
    r.report page = pairField r.number ++ byteField r.filmKind ++ byteField r.state.code ++ byteField r.declared ++
      byteField r.usable ++ byteField r.current ++
      (match r.state with
        | .keepReported d => byteField d.length ++ d
        | .inCamera | .out | .fogged => [0]) ++
      [FrameState.blank, .exposed, .spoiled, .kept, .rejected, .labelled, .fogged].map
        (fun state => BitVec.ofNat 8 (r.frames.countP fun f => f.state = state)) ++
      byteField page ++ byteField (min 10 (r.frames.length - 10 * page)) ++
      (List.range 10).flatMap fun i => (r.frames[10 * page + i]?).elim [] fun f => frameReport (10 * page + i + 1, f) := by
  have hcounts : ∀ states : List FrameState, (states.flatMap fun state => byteField (r.count state)) =
      states.map fun state => BitVec.ofNat 8 (r.frames.countP fun f => f.state = state) := fun states => by
    simp only [Roll.count, ← List.countP_eq_length_filter]
    exact List.flatMap_pure_eq_map _ _
  simp only [Roll.report, RollState.date_field, hcounts, page_length, page_flatMap]

/-- Settles O55: the report by its layout, and the close by the state of the roll; the rejected frames of an OUT roll reach
their orders one after the other, and the account's held falls as stated whether or not the accounts balance. -/
theorem rollsAreReportedAndClosed : Obligations.RollsAreReportedAndClosed := by
  rintro a b page s number hfree rfl
  refine ⟨?_, fun hnone => ?_, fun r hroll => ⟨fun hstate => ?_, fun d hstate hnamed => ?_, ?_, ?_⟩⟩
  · rw [exec_rollReport_eq hfree]
    refine congrArg Host.Outcome.next (if_congr Iff.rfl rfl ?_)
    cases s.findRoll (a.toNat * 256 + b.toNat) with
    | none => rfl
    | some r =>
      have hpage : byteField page.toNat = [page] := by simp [byteField]
      rw [Option.elim_some, Roll.report_eq, hpage]
      refine congrArg (s.answered 34 .done) (congrArg₂ (· ++ ·) rfl (congrArg (List.flatMap · _) (funext fun i => ?_)))
      cases r.frames[10 * page.toNat + i]? <;> rfl
  · exact exec_closeRoll_of_owner (t := s.frameDone) hfree (serveCloseRoll_none hnone) rfl
  · exact exec_closeRoll_of_owner (t := s.frameDone) hfree (serveCloseRoll_inCamera hroll hstate) rfl
  · exact exec_closeRoll_of_owner (t := s.frameDone) hfree (serveCloseRoll_named hroll hstate hnamed) rfl
  · rintro (hfogged | ⟨⟨d, hkept⟩, hunnamed⟩)
    · exact exec_closeRoll_of_removed hfree (serveCloseRoll_fogged hroll hfogged)
    · exact exec_closeRoll_of_removed hfree (serveCloseRoll_unnamed hroll hkept hunnamed)
  · rintro hstate rejected given rfl rfl hdistinct
    obtain ⟨u, ⟨hrecords, hheld⟩, hexec⟩ := exec_closeRoll_out hfree hdistinct hroll hstate
    generalize u.accounts = accounts at hrecords
    subst hrecords
    exact ⟨_, hexec, rfl, rfl, rfl, rfl, fun n x hx =>
      ⟨x.lowerHeld _, (hheld n).trans (congrArg (Option.map _) hx), rfl, fun _ => rfl⟩⟩

end Sys2Proof.Machine
end

section
/-! PROOFS. Set Account (R154, R155): the slot that holds a number, the record a slot takes with its low mark (R152), and
the answers of the owner. -/

namespace Sys2Proof.Machine

/-! ## The slots of the Account Table -/

theorem slotHolds_iff {n : Nat} {slot : Option Account} :
    slotHolds n slot = true ↔ ∃ a, slot = some a ∧ a.number = n := by
  simp [slotHolds, Option.any_eq_true]

theorem State.findAccount_eq_none_of_numbers {s : State} {n : Nat}
    (h : ∀ a, some a ∈ s.accounts.slots → a.number ≠ n) :
    s.findAccount n = none :=
  findAccount_eq_none_iff.mpr fun slot hslot => Bool.eq_false_iff.mpr fun hholds => by
    obtain ⟨a, rfl, hnumber⟩ := slotHolds_iff.mp hholds
    exact h a hslot hnumber

/-- The lowest slot with an account of a number is the slot of that number, and its account the one found. -/
theorem State.findAccount_and_slotOf {s : State} {n i : Nat} {a : Account} (hat : s.accounts.slots[i]? = some (some a))
    (hnumber : a.number = n) (hfirst : ∀ j b, j < i → s.accounts.slots[j]? = some (some b) → b.number ≠ n) :
    s.findAccount n = some a ∧ s.slotOf n = some i := by
  obtain ⟨hlt, hget⟩ := List.getElem?_eq_some_iff.mp hat
  have hholds : slotHolds n (some a) = true := slotHolds_iff.mpr ⟨a, rfl, hnumber⟩
  have hearlier : ∀ j (hj : j < i), ¬ slotHolds n s.accounts.slots[j] = true := fun j hj hslot => by
    obtain ⟨b, hb, hbn⟩ := slotHolds_iff.mp hslot
    exact hfirst j b hj (List.getElem?_eq_some_iff.mpr ⟨hj.trans hlt, hb⟩) hbn
  refine ⟨Option.join_eq_some_iff.mpr ?_, ?_⟩
  · exact List.find?_eq_some_iff_getElem.mpr ⟨hholds, i, hlt, hget, fun j hj => by simpa using hearlier j hj⟩
  · exact List.findIdx?_eq_some_iff_getElem.mpr ⟨hlt, hget ▸ hholds, hearlier⟩

theorem findIdx?_isNone_eq_some {α : Type} {slots : List (Option α)} {i : Nat} (hat : slots[i]? = some none)
    (hfirst : ∀ j, j < i → slots[j]? ≠ some none) : slots.findIdx? (·.isNone) = some i := by
  obtain ⟨hlt, hget⟩ := List.getElem?_eq_some_iff.mp hat
  refine List.findIdx?_eq_some_iff_getElem.mpr ⟨hlt, by simp [hget], fun j hj hnone => ?_⟩
  exact hfirst j hj (List.getElem?_eq_some_iff.mpr ⟨hj.trans hlt, Option.isNone_iff_eq_none.mp hnone⟩)

/-! ## A slot takes a record -/

/-- The notices after a low mark has been worked out (R152); 1024 is the set of ACCOUNT_LOW. -/
theorem State.noteLow_eq (s : State) (before after : Bool) :
    s.noteLow before after =
      s.withNotices (if before = false ∧ after = true then s.notices.noting 1024 else s.notices) := by
  cases before with
  | true => rfl
  | false => cases after <;> rfl

/-! ## The owner's answers -/

/-- The ranges of a Set Account (R154). -/
def setAccountInRange (body : List Byte) : Prop :=
  pairAt body 0 ≠ 0 ∧ pairAt body 0 ≤ 9999 ∧ byteAt body 2 ≤ 1 ∧ quadAt body 3 ≤ 9999999 ∧ quadAt body 7 ≤ 9999999

/-- The owner's tests are the ranges. -/
theorem setAccountInRange_iff (body : List Byte) :
    ((accountFields body).number = 0 || (accountFields body).number > Config.maxAccount || byteAt body 2 > 1 ||
      (accountFields body).allowance > Config.maxMoney || (accountFields body).warn > Config.maxMoney) = false ↔
      setAccountInRange body := by
  simp only [Bool.or_eq_false_iff, decide_eq_false_iff_not, gt_iff_lt, Nat.not_lt, and_assoc]
  rfl

section
variable {body : List Byte} {s : State}

theorem serveSetAccount_outOfRange (h : ¬ setAccountInRange body) : serveSetAccount body s = s.refuse .outOfRange :=
  if_pos (by simpa only [Bool.not_eq_false] using mt (setAccountInRange_iff body).mp h)

theorem serveSetAccount_known {a : Account} {slot : Nat} (h : setAccountInRange body)
    (hfound : s.findAccount (accountFields body).number = some a)
    (hslot : s.slotOf (accountFields body).number = some slot) :
    serveSetAccount body s =
      if quadAt body 3 < a.spent + a.held then s.refuse .belowCommitted
      else s.storeAccount slot { a with
        suspended := decide (byteAt body 2 = 1), allowance := quadAt body 3, warn := quadAt body 7, damaged := false }
        a.low := by
  simp only [serveSetAccount, (setAccountInRange_iff body).mpr h, hfound, hslot, Bool.false_eq_true, if_false]
  rfl

theorem serveSetAccount_new (h : setAccountInRange body) (hnew : s.findAccount (accountFields body).number = none) :
    serveSetAccount body s = (s.accounts.slots.findIdx? (·.isNone)).elim (s.refuse .tableFull)
      fun slot => s.storeAccount slot (accountFields body) false := by
  simp only [serveSetAccount, (setAccountInRange_iff body).mpr h, hnew, Bool.false_eq_true, if_false]
  cases s.accounts.slots.findIdx? (·.isNone) <;> rfl

/-! ## The answers at a free port -/

theorem exec_setAccount (body : List Byte) (s : State) : exec (.setAccount body) s = .next (s.arrive 80 body) := rfl

theorem exec_setAccount_of_owner {t : State} {result : Result} {reply : List Byte} (h : s.free)
    (hlength : body.length = 11) (howner : serveSetAccount body s.frameDone = (⟨result, reply⟩, t))
    (hline : t.line = s.frameDone.line) :
    exec (.setAccount body) s = .next (t.answered 80 result reply) := by
  rw [exec_setAccount]
  exact congrArg Host.Outcome.next <| State.arrive_eq_answered h rfl (lengthOk_of_fixedLength rfl rfl hlength)
    (by simp [hlength, Config.maxBody]) howner hline

theorem exec_setAccount_refused {result : Result} (h : s.free) (hlength : body.length = 11)
    (howner : serveSetAccount body s.frameDone = s.frameDone.refuse result) :
    exec (.setAccount body) s = .next (s.answered 80 result []) :=
  exec_setAccount_of_owner (t := s.frameDone) h hlength howner rfl

/-- A record stored: its place dirty, ACCOUNT_LOW raised where the low mark goes from no to yes, and the record
answered. -/
theorem exec_setAccount_stored {slot : Nat} {new : Account} {wasLow : Bool} (h : s.free) (hlength : body.length = 11)
    (howner : serveSetAccount body s.frameDone = s.frameDone.storeAccount slot new wasLow) :
    exec (.setAccount body) s = .next
      ((((s.frameDone.withSlot slot (some new)).markDirty (6 + slot)).withNotices
        (if wasLow = false ∧ new.low = true then s.notices.noting 1024 else s.notices)).answered 80 .done
        (new.report slot)) := by
  refine exec_setAccount_of_owner h hlength (howner.trans ?_) ?_
  · rw [State.storeAccount, State.noteLow_eq, State.markDirty_notices]
    rfl
  · rw [State.withNotices_line, State.markDirty_line]
    rfl

end

/-! ## Set Account -/

/-- Settles O59: out of range, the account found in its lowest slot, or a new number by the lowest free slot. -/
theorem accountsAreSet : Obligations.AccountsAreSet := by
  rintro body s number allowance warn slots low report hfree hlength rfl rfl rfl rfl rfl rfl
  refine ⟨fun hout => ?_, fun hzero hnumber hstate hallowance hwarn => ?_⟩
  · exact exec_setAccount_refused hfree hlength
      (serveSetAccount_outOfRange (by simp only [setAccountInRange]; omega))
  have hrange : setAccountInRange body := ⟨hzero, hnumber, hstate, hallowance, hwarn⟩
  refine ⟨fun i a hat hnumber hfirst => ?_, fun hnumbers => ?_⟩
  · obtain ⟨hfound, hslot⟩ := State.findAccount_and_slotOf hat hnumber hfirst
    have howner := serveSetAccount_known (s := s.frameDone) hrange hfound hslot
    refine ⟨fun hbelow => ?_, ?_⟩
    · exact exec_setAccount_refused hfree hlength (howner.trans (if_pos hbelow))
    · rintro hcovered _ _ rfl rfl
      exact exec_setAccount_stored hfree hlength (howner.trans (if_neg (Nat.not_lt.mpr hcovered)))
  · have howner := serveSetAccount_new (s := s.frameDone) hrange (State.findAccount_eq_none_of_numbers hnumbers)
    refine ⟨fun hfull => ?_, ?_⟩
    · have hnoslot : s.frameDone.accounts.slots.findIdx? (·.isNone) = none :=
        List.findIdx?_eq_none_iff.mpr fun m hm => by simpa using Option.ne_none_iff_isSome.mp (hfull m hm)
      rw [hnoslot] at howner
      exact exec_setAccount_refused hfree hlength howner
    · rintro i hat hfirst _ _ rfl rfl
      have hslot : s.frameDone.accounts.slots.findIdx? (·.isNone) = some i := findIdx?_isNone_eq_some hat hfirst
      rw [hslot] at howner
      have hstored := exec_setAccount_stored hfree hlength howner
      simp only [true_and] at hstored
      exact hstored

end Sys2Proof.Machine
end

section
/-! PROOFS. The requests of the Notice Unit (R191, R192, R193): Status, and the three that carry a notice set, which
share their one test and differ in the set they change. -/

namespace Sys2Proof.Machine

/-! ## The notice requests as frames -/

theorem exec_status (body : List Byte) (s : State) : exec (.status body) s = .next (s.arrive 1 body) := rfl

theorem exec_setNoticeEnable (body : List Byte) (s : State) :
    exec (.setNoticeEnable body) s = .next (s.arrive 2 body) := rfl

theorem exec_clearNoticeEnable (body : List Byte) (s : State) :
    exec (.clearNoticeEnable body) s = .next (s.arrive 3 body) := rfl

theorem exec_clearNotices (body : List Byte) (s : State) : exec (.clearNotices body) s = .next (s.arrive 4 body) := rfl

/-! ## Status (R193) -/

/-- Reports show no loaded kind in EMPTY, SEATING and MISSEATED (R99). -/
theorem State.shownKind_eq (s : State) :
    s.shownKind = if s.transport.state = .empty ∨ s.transport.state = .seating ∨ s.transport.state = .misseated then 255
      else s.transport.loadedKind.getD 255 := by
  unfold shownKind
  cases s.transport.state <;> rfl

/-- Status at a free port: the body of 12.5; only the port changes. -/
theorem exec_status_eq {s : State} (h : s.free) : exec (.status []) s = .next (s.answered 1 .done s.statusBody) := by
  rw [exec_status, State.arrive_eq_answered (t := s.frameDone) h rfl rfl (Nat.zero_le _) rfl rfl]
  rfl

/-! ## The requests that carry a notice set (R191, R192) -/

section
variable {s : State} {a b : Byte} {set : NoticeSet}

theorem noticeSetAt_pair (hset : set.toNat = a.toNat * 256 + b.toNat) : noticeSetAt [a, b] = set := by
  have hpair : pairAt [a, b] 0 = set.toNat := hset.symm
  rw [noticeSetAt, hpair, BitVec.ofNat_toNat, BitVec.setWidth_eq]

/-- A request that carries a notice set, at a free port: OUT_OF_RANGE where the set names a kind above 13, else the
reply to what its owner left of the notices. Nothing else changes but the port. -/
theorem State.arrive_eq_of_noticeSet (left : NoticeSet → NoticeUnit) (reply : NoticeUnit → List Byte) {kind : Nat}
    (h : s.free) (hset : set.toNat = a.toNat * 256 + b.toNat) (hkind : fixedLength kind = some 2)
    (himplied : hasImpliedLength kind = false)
    (howner : serveChecked kind [a, b] s.frameDone =
      if namesUnknownNotice (noticeSetAt [a, b]) then s.frameDone.refuse .outOfRange
      else (s.frameDone.withNotices (left (noticeSetAt [a, b]))).answer (reply (left (noticeSetAt [a, b])))) :
    s.arrive kind [a, b] =
      if 16384 ≤ set.toNat then s.answered kind .outOfRange []
      else (s.withNotices (left set)).answered kind .done (reply (left set)) := by
  have hknown : isRequestKind kind = true := by simp [isRequestKind, hkind]
  have hlength : lengthOk kind [a, b] = true := lengthOk_of_fixedLength hkind himplied rfl
  have hfits : [a, b].length ≤ Config.maxBody := by simp [Config.maxBody]
  simp only [noticeSetAt_pair hset, namesUnknownNotice, decide_eq_true_eq, ge_iff_le] at howner
  exact arrive_eq_ite_refused h hknown hlength hfits howner fun howner =>
    arrive_eq_answered (t := s.frameDone.withNotices (left set)) h hknown hlength hfits howner rfl

/-- Set Notice Enable at a free port: the named kinds are added to the enabled set. -/
theorem exec_setNoticeEnable_eq (h : s.free) (hset : set.toNat = a.toNat * 256 + b.toNat) :
    exec (.setNoticeEnable [a, b]) s = .next
      (if 16384 ≤ set.toNat then s.answered 2 .outOfRange []
       else (s.withNotices { s.notices with enabled := s.notices.enabled ||| set }).answered 2 .done
         (setField (s.notices.enabled ||| set) ++ setField (s.notices.pending &&& (s.notices.enabled ||| set)))) := by
  rw [exec_setNoticeEnable]
  exact congrArg Host.Outcome.next <| State.arrive_eq_of_noticeSet
    (fun set => { s.notices with enabled := s.notices.enabled ||| set })
    (fun n => setField n.enabled ++ setField n.shared) h hset rfl rfl rfl

/-- Clear Notice Enable at a free port: the named kinds are removed from the enabled set. -/
theorem exec_clearNoticeEnable_eq (h : s.free) (hset : set.toNat = a.toNat * 256 + b.toNat) :
    exec (.clearNoticeEnable [a, b]) s = .next
      (if 16384 ≤ set.toNat then s.answered 3 .outOfRange []
       else (s.withNotices { s.notices with enabled := s.notices.enabled &&& ~~~set }).answered 3 .done
         (setField (s.notices.enabled &&& ~~~set) ++
           setField (s.notices.pending &&& (s.notices.enabled &&& ~~~set)))) := by
  rw [exec_clearNoticeEnable]
  exact congrArg Host.Outcome.next <| State.arrive_eq_of_noticeSet
    (fun set => { s.notices with enabled := s.notices.enabled &&& ~~~set })
    (fun n => setField n.enabled ++ setField n.shared) h hset rfl rfl rfl

/-- Clear Notices at a free port: the named kinds are removed from the pending set. -/
theorem exec_clearNotices_eq (h : s.free) (hset : set.toNat = a.toNat * 256 + b.toNat) :
    exec (.clearNotices [a, b]) s = .next
      (if 16384 ≤ set.toNat then s.answered 4 .outOfRange []
       else (s.withNotices { s.notices with pending := s.notices.pending &&& ~~~set }).answered 4 .done
         (setField (s.notices.pending &&& ~~~set))) := by
  rw [exec_clearNotices]
  exact congrArg Host.Outcome.next <| State.arrive_eq_of_noticeSet
    (fun set => { s.notices with pending := s.notices.pending &&& ~~~set })
    (fun n => setField n.pending) h hset rfl rfl rfl

end

/-! ## The notice requests -/

/-- Settles O19: the layout of Status field by field, and each set request on either side of kind 13. -/
theorem noticeRequestsAreAnswered : Obligations.NoticeRequestsAreAnswered := by
  refine ⟨fun s hfree => ?_, fun a b set s hfree hset => ?_⟩
  · have hcalibrated : flagField s.calibration.calibrated = byteField (if s.calibration.refCal = 0 then 0 else 1) := by
      rw [flagField_calibrated]
      split <;> rfl
    rw [exec_status_eq hfree, State.statusBody, State.shownKind_eq, hcalibrated, flagField_eq, flagField_eq]
    rfl
  · rw [exec_setNoticeEnable_eq hfree hset, exec_clearNoticeEnable_eq hfree hset, exec_clearNotices_eq hfree hset]
    refine ⟨fun hknown => ?_, fun hunknown => ?_⟩
    · simp only [if_neg (Nat.not_le.mpr hknown)]
      exact ⟨rfl, rfl, rfl⟩
    · simp only [if_pos hunknown, and_self]

end Sys2Proof.Machine
end

section
/-! PROOFS. What the invariants of the Order Table and of the light read of an order: its id, its state and its unmade
frames; and what the shared operations do to that. -/

namespace Sys2Proof.Machine

/-! ## The courses of the orders -/

/-- What the active-order mark (R3) and the light (R63, R68) read of an order record. -/
structure Course where
  id     : Nat
  state  : OrderState
  unmade : Nat

def Order.course (o : Order) : Course := ⟨o.id, o.state, o.unmade⟩

def State.courses (s : State) : List Course := s.orders.table.map Order.course

/-- The active-order mark (R3) on a list of courses. -/
structure MarksActive (active : Option Nat) (cs : List Course) : Prop where
  distinct : (cs.map Course.id).Nodup
  marked   : ∀ c ∈ cs, c.state.isActive = true ↔ active = some c.id
  present  : ∀ id, active = some id → ∃ c ∈ cs, c.id = id

theorem State.courses_map_id (s : State) : s.courses.map Course.id = s.orders.table.map Order.id := by
  rw [courses, List.map_map]
  rfl

theorem State.markHolds_iff (s : State) : s.markHolds ↔ MarksActive s.orders.active s.courses := by
  constructor
  · rintro ⟨hdistinct, hmarked, hpresent⟩
    refine ⟨s.courses_map_id ▸ hdistinct, fun c hc => ?_, fun id hid => ?_⟩
    · obtain ⟨o, ho, rfl⟩ := List.mem_map.mp hc
      exact hmarked o ho
    · obtain ⟨o, ho, rfl⟩ := hpresent id hid
      exact ⟨o.course, List.mem_map_of_mem ho, rfl⟩
  · rintro ⟨hdistinct, hmarked, hpresent⟩
    refine ⟨s.courses_map_id ▸ hdistinct, fun o ho => hmarked o.course (List.mem_map_of_mem ho), fun id hid => ?_⟩
    obtain ⟨c, hc, rfl⟩ := hpresent id hid
    obtain ⟨o, ho, rfl⟩ := List.mem_map.mp hc
    exact ⟨o, ho, rfl⟩

/-- The light (R63, R65, R68) on the courses of the orders: with the mark in place, the order of a lighting is the one
order in its state. -/
structure LitSafely (active : Option Nat) (cs : List Course) (e : ExposureUnit) (transport : TransportState) : Prop where
  marks  : MarksActive active cs
  drives : e.drives
  gate   : ∀ p, e.purpose = some p → (e.gate.reading = true ↔ p ≠ .calibration)
  ready  : ∀ p, e.purpose = some p → p.forOrder = true → transport = .ready
  pass   : e.purpose = some .orderPass → ∃ c ∈ cs, c.state = .metering
  frame  : ∀ k t, e.purpose = some (.exposure k t) → ∃ c ∈ cs, c.state = .exposing
  slide  : ∀ c ∈ cs, c.state = .exposing → c.unmade ≠ 0 → e.gate.reading = true

theorem State.mem_courses {s : State} {c : Course} : c ∈ s.courses ↔ ∃ o ∈ s.orders.table, o.course = c := List.mem_map

/-- With ids distinct, an order of the table is the one its id finds. -/
theorem State.findOrder_of_mem {s : State} {o : Order} (hdistinct : (s.orders.table.map Order.id).Nodup)
    (ho : o ∈ s.orders.table) : s.findOrder o.id = some o := by
  cases hfound : s.findOrder o.id with
  | none => simpa using List.find?_eq_none.mp hfound o ho
  | some p => rw [eq_of_findOrder hdistinct hfound ho rfl]

theorem State.activeOrder_eq_some {s : State} {o : Order} (h : s.activeOrder = some o) :
    o ∈ s.orders.table ∧ s.orders.active = some o.id ∧ s.findOrder o.id = some o := by
  obtain ⟨id, hactive, hfound⟩ := Option.bind_eq_some_iff.mp h
  obtain ⟨hmem, rfl⟩ := findOrder_some hfound
  exact ⟨hmem, hactive, hfound⟩

/-- Where the mark holds, an order in METERING, EXPOSING or PAUSED is the active order. -/
theorem State.activeOrder_of_isActive {s : State} {o : Order} (h : s.markHolds) (ho : o ∈ s.orders.table)
    (hactive : o.state.isActive = true) : s.activeOrder = some o := by
  obtain ⟨hdistinct, hmarked, -⟩ := h
  rw [activeOrder, (hmarked o ho).mp hactive]
  exact findOrder_of_mem hdistinct ho

theorem State.exists_activeOrder_iff {s : State} (h : s.markHolds) {st : OrderState} (hst : st.isActive = true) :
    (∃ o, s.activeOrder = some o ∧ o.state = st) ↔ ∃ c ∈ s.courses, c.state = st := by
  constructor
  · rintro ⟨o, ho, hstate⟩
    exact ⟨o.course, mem_courses.mpr ⟨o, (activeOrder_eq_some ho).1, rfl⟩, hstate⟩
  · rintro ⟨c, hc, rfl⟩
    obtain ⟨o, ho, rfl⟩ := mem_courses.mp hc
    exact ⟨o, activeOrder_of_isActive h ho hst, rfl⟩

theorem State.lightSafe_iff (s : State) :
    s.lightSafe ↔ LitSafely s.orders.active s.courses s.exposure s.transport.state := by
  constructor
  · rintro ⟨hmarks, hdrives, hgate, hready, hpass, hframe, hslide⟩
    refine ⟨(s.markHolds_iff).mp hmarks, hdrives, hgate, hready, fun hp => ?_, fun k t hp => ?_, fun c hc => ?_⟩
    · exact (exists_activeOrder_iff hmarks rfl).mp (hpass hp)
    · exact (exists_activeOrder_iff hmarks rfl).mp (hframe k t hp)
    · obtain ⟨o, ho, rfl⟩ := mem_courses.mp hc
      exact hslide o ho
  · rintro ⟨hmarks, hdrives, hgate, hready, hpass, hframe, hslide⟩
    have hmark := (s.markHolds_iff).mpr hmarks
    refine ⟨hmark, hdrives, hgate, hready, fun hp => ?_, fun k t hp => ?_, fun o ho => ?_⟩
    · exact (exists_activeOrder_iff hmark rfl).mpr (hpass hp)
    · exact (exists_activeOrder_iff hmark rfl).mpr (hframe k t hp)
    · exact hslide o.course (mem_courses.mpr ⟨o, ho, rfl⟩)

/-! ## What the operations do to the courses -/

theorem State.mapOrder_courses (s : State) (id : Nat) (f : Order → Order) (g : Course → Course)
    (h : ∀ o, o.id = id → (f o).course = g o.course) :
    (s.mapOrder id f).courses = s.courses.map fun c => if c.id = id then g c else c := by
  simp only [courses, mapOrder, withOrders, List.map_map]
  refine List.map_congr_left fun o _ => ?_
  by_cases hid : o.id = id
  · simp only [Function.comp_apply, if_pos hid, h o hid, show o.course.id = id from hid, if_true]
  · simp only [Function.comp_apply, if_neg hid, show o.course.id ≠ id from hid, if_false]

theorem State.mapOrder_courses_same {s : State} {id : Nat} {f : Order → Order} (h : ∀ o, (f o).course = o.course) :
    (s.mapOrder id f).courses = s.courses := by
  rw [s.mapOrder_courses id f (fun c => c) fun o _ => h o]
  simp

@[simp] theorem State.raise_courses (s : State) (n : Notice) : (s.raise n).courses = s.courses := rfl
@[simp] theorem State.withNotices_courses (s : State) (n : NoticeUnit) : (s.withNotices n).courses = s.courses := rfl
@[simp] theorem State.unmark_courses (s : State) (a : Option Nat) :
    (s.withOrders { s.orders with active := a }).courses = s.courses := rfl

@[simp] theorem State.mapOrder_active (s : State) (id : Nat) (f : Order → Order) :
    (s.mapOrder id f).orders.active = s.orders.active := rfl

@[simp] theorem Order.lowerHold_course (o : Order) (part : HoldPart) (n : Nat) : (o.lowerHold part n).course = o.course := by
  cases part <;> rfl

/-- A posting or release reaches the hold of its order, and no order's course. -/
theorem State.moveHold_orders (s : State) (id : Nat) (part : HoldPart) (amount : Nat) (posted : Bool) :
    (s.moveHold id part amount posted).orders =
      (s.mapOrder id fun o => o.lowerHold part (((s.findOrder id).map fun o => min amount (o.hold part)).getD 0)).orders := by
  cases hfound : s.findOrder id with
  | none =>
    have hnone : ∀ o ∈ s.orders.table, o.id ≠ id := by simpa [findOrder] using hfound
    have htable : (s.orders.table.map fun o => if o.id = id then o.lowerHold part 0 else o) = s.orders.table :=
      (List.map_congr_left fun o ho => if_neg (hnone o ho)).trans (List.map_id' _)
    simp [moveHold, hfound, mapOrder, htable]
  | some o => simp [moveHold, hfound]

@[simp] theorem State.moveHold_courses (s : State) (id : Nat) (part : HoldPart) (amount : Nat) (posted : Bool) :
    (s.moveHold id part amount posted).courses = s.courses := by
  rw [courses, moveHold_orders]
  exact mapOrder_courses_same fun o => o.lowerHold_course _ _

@[simp] theorem State.moveHold_active (s : State) (id : Nat) (part : HoldPart) (amount : Nat) (posted : Bool) :
    (s.moveHold id part amount posted).orders.active = s.orders.active := by rw [moveHold_orders, mapOrder_active]

@[simp] theorem State.release_courses (s : State) (id : Nat) (part : HoldPart) (amount : Nat) :
    (s.release id part amount).courses = s.courses := s.moveHold_courses id part amount false

@[simp] theorem State.release_active (s : State) (id : Nat) (part : HoldPart) (amount : Nat) :
    (s.release id part amount).orders.active = s.orders.active := s.moveHold_active id part amount false

@[simp] theorem State.oweFewerLabels_courses (s : State) (id n : Nat) : (s.oweFewerLabels id n).courses = s.courses :=
  mapOrder_courses_same fun _ => rfl

@[simp] theorem State.oweFewerLabels_active (s : State) (id n : Nat) :
    (s.oweFewerLabels id n).orders.active = s.orders.active := rfl

/-- The order of an id goes to another state. -/
def Course.restate (id : Nat) (state : OrderState) (c : Course) : Course :=
  if c.id = id then { c with state := state } else c

@[simp] theorem Course.restate_id (id : Nat) (state : OrderState) (c : Course) : (c.restate id state).id = c.id := by
  unfold restate; split <;> rfl

theorem State.courses_ne_of_findOrder_eq_none {s : State} {id : Nat} (h : s.findOrder id = none) :
    ∀ c ∈ s.courses, c.id ≠ id := by
  intro c hc
  obtain ⟨o, ho, rfl⟩ := mem_courses.mp hc
  simpa [Order.course] using List.find?_eq_none.mp h o ho

theorem State.finishOrder_courses (s : State) (id : Nat) (final : OrderState) :
    (s.finishOrder id final).courses = s.courses.map (Course.restate id final) := by
  have hnamed : (s.mapOrder id fun o => { o with state := final, cancelRequested := false }).courses =
      s.courses.map (Course.restate id final) := s.mapOrder_courses id _ (fun c => { c with state := final }) fun _ _ => rfl
  unfold finishOrder
  cases hfound : s.findOrder id with
  | none =>
    have hsame : s.courses.map (Course.restate id final) = s.courses :=
      (List.map_congr_left fun c hc => if_neg (courses_ne_of_findOrder_eq_none hfound c hc)).trans (List.map_id' _)
    exact hsame.symm
  | some o =>
    rw [← hnamed]
    dsimp only
    split_ifs <;> simp

/-- What every step of a finish keeps (R24), the finish keeps. -/
theorem State.finishOrder_keeps {P : State → Prop} {s : State} (id : Nat) (final : OrderState) (h : P s)
    (hstate : P (s.mapOrder id fun o => { o with state := final, cancelRequested := false }))
    (hrelease : ∀ u part amount, P u → P (u.release id part amount))
    (howe : ∀ u count, P u → P (u.oweFewerLabels id count))
    (hunmark : ∀ u, P u → P (u.withOrders { u.orders with active := none }))
    (hfinished : ∀ u, P u → P ((u.withNotices { u.notices with lastFinished := id }).raise .orderFinished)) :
    P (s.finishOrder id final) := by
  unfold finishOrder
  split
  · exact h
  next o _ =>
    have hlabels : ∀ u, P u → P (if o.labels then
        (u.release id .label (o.unmade * o.labelRate)).oweFewerLabels id o.unmade else u) := fun u hu =>
      iteInduction (fun _ => howe _ _ (hrelease _ _ _ hu)) fun _ => hu
    have hsetup : ∀ u, P u → P (if o.exposed = 0 then u.release id .setup o.setupFee else u) := fun u hu =>
      iteInduction (fun _ => hrelease _ _ _ hu) fun _ => hu
    have hmark : ∀ u, P u → P (if u.orders.active = some id then u.withOrders { u.orders with active := none }
        else u) := fun u hu => iteInduction (fun _ => hunmark _ hu) fun _ => hu
    exact hfinished _ (hmark _ (hsetup _ (hlabels _ (hrelease _ _ _ hstate))))

theorem State.finishOrder_active (s : State) (id : Nat) (final : OrderState) :
    (s.finishOrder id final).orders.active =
      if (s.findOrder id).isSome ∧ s.orders.active = some id then none else s.orders.active := by
  unfold finishOrder
  cases hfound : s.findOrder id with
  | none => simp
  | some o =>
    dsimp only
    split_ifs <;> simp_all

/-! ## The mark -/

namespace MarksActive

variable {active : Option Nat} {cs : List Course}

/-- The course of an order is the only one of its id. -/
theorem eq_of_id (h : MarksActive active cs) {c d : Course} (hc : c ∈ cs) (hd : d ∈ cs) (hid : c.id = d.id) : c = d :=
  List.inj_on_of_nodup_map h.distinct hc hd hid

/-- At most one order is in METERING, EXPOSING or PAUSED. -/
theorem eq_of_isActive (h : MarksActive active cs) {c d : Course} (hc : c ∈ cs) (hd : d ∈ cs)
    (hcactive : c.state.isActive = true) (hdactive : d.state.isActive = true) : c = d :=
  h.eq_of_id hc hd (Option.some.inj (((h.marked c hc).mp hcactive).symm.trans ((h.marked d hd).mp hdactive)))

theorem of_map {cs' : List Course} {g : Course → Course} (h : MarksActive active cs) (hcs : cs' = cs.map g)
    (hg : ∀ c ∈ cs, (g c).id = c.id ∧ (g c).state.isActive = c.state.isActive) : MarksActive active cs' := by
  subst hcs
  have hids : (cs.map g).map Course.id = cs.map Course.id := by
    rw [List.map_map]
    exact List.map_congr_left fun c hc => (hg c hc).1
  refine ⟨hids ▸ h.distinct, fun d hd => ?_, fun id hid => ?_⟩
  · obtain ⟨c, hc, rfl⟩ := List.mem_map.mp hd
    rw [(hg c hc).1, (hg c hc).2]
    exact h.marked c hc
  · obtain ⟨c, hc, rfl⟩ := h.present id hid
    exact ⟨g c, List.mem_map_of_mem hc, (hg c hc).1⟩

/-- A finish takes the mark from the order it names (R24). -/
theorem finish (h : MarksActive active cs) {id : Nat} {final : OrderState} (hfinal : final.isActive = false) :
    MarksActive (if active = some id then none else active) (cs.map (Course.restate id final)) := by
  have hids : (cs.map (Course.restate id final)).map Course.id = cs.map Course.id := by
    simp [Function.comp_def]
  refine ⟨hids ▸ h.distinct, fun d hd => ?_, fun i hi => ?_⟩
  · obtain ⟨c, hc, rfl⟩ := List.mem_map.mp hd
    have hmarked := h.marked c hc
    by_cases hid : c.id = id
    · simp only [Course.restate, hid]
      split_ifs <;> simp_all
    · rw [Course.restate, if_neg hid, hmarked]
      split_ifs with hactive
      · simp [hactive, Ne.symm hid]
      · rfl
  · have hsome : active = some i := by
      split_ifs at hi
      exact hi
    obtain ⟨c, hc, rfl⟩ := h.present i hsome
    exact ⟨_, List.mem_map_of_mem hc, Course.restate_id _ _ c⟩

/-- A Start marks an order that is active already, or an order of a table with none active (R10). -/
theorem begin (h : MarksActive active cs) {id : Nat} (hfree : active = some id ∨ active = none)
    (hpresent : ∃ c ∈ cs, c.id = id) : MarksActive (some id) (cs.map (Course.restate id .metering)) := by
  have hids : (cs.map (Course.restate id .metering)).map Course.id = cs.map Course.id := by
    simp [Function.comp_def]
  refine ⟨hids ▸ h.distinct, fun d hd => ?_, fun i hi => ?_⟩
  · obtain ⟨c, hc, rfl⟩ := List.mem_map.mp hd
    by_cases hid : c.id = id
    · simp [Course.restate, hid, OrderState.isActive]
    · rw [Course.restate, if_neg hid, h.marked c hc]
      rcases hfree with rfl | rfl <;> simp [Ne.symm hid]
  · obtain rfl := Option.some.inj hi
    obtain ⟨c, hc, rfl⟩ := hpresent
    exact ⟨_, List.mem_map_of_mem hc, Course.restate_id _ _ c⟩

/-- An order admitted QUEUED with an id of its own (R5). -/
theorem enroll (h : MarksActive active cs) {c : Course} (hfresh : ∀ d ∈ cs, d.id ≠ c.id) (hqueued : c.state = .queued) :
    MarksActive active (cs ++ [c]) := by
  refine ⟨?_, fun d hd => ?_, fun id hid => ?_⟩
  · rw [List.map_append, List.nodup_append]
    exact ⟨h.distinct, List.nodup_singleton _, by simpa using hfresh⟩
  · obtain hd | hd := List.mem_append.mp hd
    · exact h.marked d hd
    · obtain rfl := List.mem_singleton.mp hd
      have hnone : active ≠ some d.id := fun hactive => by
        obtain ⟨e, he, heq⟩ := h.present _ hactive
        exact hfresh e he heq
      simp [hqueued, OrderState.isActive, hnone]
  · obtain ⟨d, hd, rfl⟩ := h.present id hid
    exact ⟨d, List.mem_append_left _ hd, rfl⟩

/-- A finished order leaves the table (R26). -/
theorem retire (h : MarksActive active cs) {c : Course} (hc : c ∈ cs) (hfinished : c.state.isActive = false) :
    MarksActive active (cs.filter fun d => d.id ≠ c.id) := by
  refine ⟨h.distinct.sublist (List.filter_sublist.map _), fun d hd => h.marked d (List.mem_of_mem_filter hd),
    fun id hid => ?_⟩
  obtain ⟨d, hd, rfl⟩ := h.present id hid
  have hother : d.id ≠ c.id := fun heq => by
    rw [← (h.marked d hd), h.eq_of_id hd hc heq, hfinished] at hid
    cases hid
  exact ⟨d, List.mem_filter.mpr ⟨hd, by simpa using hother⟩, rfl⟩

end MarksActive

/-! ## The light -/

namespace LitSafely

variable {active : Option Nat} {cs : List Course} {e : ExposureUnit} {tr : TransportState}

/-- What a lighting for a purpose needs (R63). -/
structure Admits (cs : List Course) (reading : Bool) (tr : TransportState) (p : Purpose) : Prop where
  gate  : reading = true ↔ p ≠ .calibration
  ready : p.forOrder = true → tr = .ready
  pass  : p = .orderPass → ∃ c ∈ cs, c.state = .metering
  frame : ∀ k t, p = .exposure k t → ∃ c ∈ cs, c.state = .exposing

theorem admits (h : LitSafely active cs e tr) {p : Purpose} (hp : e.purpose = some p) :
    Admits cs e.gate.reading tr p where
  gate := h.gate p hp
  ready := h.ready p hp
  pass hpass := h.pass (hpass ▸ hp)
  frame k t hframe := h.frame k t (hframe ▸ hp)

/-- The unit changes: what it is lit for, if anything, is admitted. -/
theorem withUnit (h : LitSafely active cs e tr) {e' : ExposureUnit} (hdrives : e'.drives)
    (hreading : e'.gate.reading = e.gate.reading)
    (hpurpose : ∀ p, e'.purpose = some p → Admits cs e.gate.reading tr p) : LitSafely active cs e' tr where
  marks := h.marks
  drives := hdrives
  gate p hp := hreading ▸ (hpurpose p hp).gate
  ready p hp := (hpurpose p hp).ready
  pass hp := (hpurpose _ hp).pass rfl
  frame k t hp := (hpurpose _ hp).frame k t rfl
  slide := hreading ▸ h.slide

/-- The transport changes with no lighting for an order, or to READY. -/
theorem withTransport (h : LitSafely active cs e tr) {tr' : TransportState}
    (hready : tr' = .ready ∨ ∀ p, e.purpose = some p → p.forOrder = false) : LitSafely active cs e tr' where
  marks := h.marks
  drives := h.drives
  gate := h.gate
  ready p hp hfor := by
    obtain hready | hdark := hready
    · exact hready
    · simp [hdark p hp] at hfor
  pass := h.pass
  frame := h.frame
  slide := h.slide

/-- Orders that keep their states, with no more frames unmade. -/
theorem amend (h : LitSafely active cs e tr) {cs' : List Course} {g : Course → Course} (hcs : cs' = cs.map g)
    (hg : ∀ c, (g c).id = c.id ∧ (g c).state = c.state ∧ (g c).unmade ≤ c.unmade) : LitSafely active cs' e tr where
  marks := h.marks.of_map hcs fun c _ => ⟨(hg c).1, by rw [(hg c).2.1]⟩
  drives := h.drives
  gate := h.gate
  ready := h.ready
  pass hp := by
    obtain ⟨c, hc, hstate⟩ := h.pass hp
    exact ⟨g c, hcs ▸ List.mem_map_of_mem hc, (hg c).2.1.trans hstate⟩
  frame k t hp := by
    obtain ⟨c, hc, hstate⟩ := h.frame k t hp
    exact ⟨g c, hcs ▸ List.mem_map_of_mem hc, (hg c).2.1.trans hstate⟩
  slide d hd hstate hunmade := by
    rw [hcs] at hd
    obtain ⟨c, hc, rfl⟩ := List.mem_map.mp hd
    obtain ⟨-, hsame, hle⟩ := hg c
    exact h.slide c hc (hsame ▸ hstate) (by omega)

/-- The states of the orders change with no lighting for an order. -/
theorem withCourses (h : LitSafely active cs e tr) {active' : Option Nat} {cs' : List Course}
    (hmarks : MarksActive active' cs') (hdark : ∀ p, e.purpose = some p → p.forOrder = false)
    (hslide : ∀ c ∈ cs', c.state = .exposing → c.unmade ≠ 0 → e.gate.reading = true) :
    LitSafely active' cs' e tr where
  marks := hmarks
  drives := h.drives
  gate := h.gate
  ready := h.ready
  pass hp := by cases hdark _ hp
  frame k t hp := by cases hdark _ hp
  slide := hslide

/-- An order finishes that no lighting is for. -/
theorem finish (h : LitSafely active cs e tr) {id : Nat} {final : OrderState} (hfinal : final.isActive = false)
    (hdark : ∀ p, e.purpose = some p → p.forOrder = true → active ≠ some id) :
    LitSafely (if active = some id then none else active) (cs.map (Course.restate id final)) e tr := by
  have hkept : ∀ st : OrderState, st.isActive = true → active ≠ some id → (∃ c ∈ cs, c.state = st) →
      ∃ c ∈ cs.map (Course.restate id final), c.state = st := by
    rintro _ hactive hother ⟨c, hc, rfl⟩
    have hne : c.id ≠ id := fun heq => hother (heq ▸ (h.marks.marked c hc).mp hactive)
    exact ⟨_, List.mem_map_of_mem hc, by rw [Course.restate, if_neg hne]⟩
  exact {
    marks := h.marks.finish hfinal
    drives := h.drives
    gate := h.gate
    ready := h.ready
    pass := fun hp => hkept _ rfl (hdark _ hp rfl) (h.pass hp)
    frame := fun k t hp => hkept _ rfl (hdark _ hp rfl) (h.frame k t hp)
    slide := fun d hd hstate hunmade => by
      obtain ⟨c, hc, rfl⟩ := List.mem_map.mp hd
      unfold Course.restate at hstate hunmade
      split_ifs at hstate hunmade
      · rw [show final = .exposing from hstate] at hfinal
        cases hfinal
      · exact h.slide c hc hstate hunmade }

theorem enroll (h : LitSafely active cs e tr) {c : Course} (hfresh : ∀ d ∈ cs, d.id ≠ c.id) (hqueued : c.state = .queued) :
    LitSafely active (cs ++ [c]) e tr where
  marks := h.marks.enroll hfresh hqueued
  drives := h.drives
  gate := h.gate
  ready := h.ready
  pass hp := have ⟨d, hd, hstate⟩ := h.pass hp; ⟨d, List.mem_append_left _ hd, hstate⟩
  frame k t hp := have ⟨d, hd, hstate⟩ := h.frame k t hp; ⟨d, List.mem_append_left _ hd, hstate⟩
  slide d hd hstate hunmade := by
    obtain hd | hd := List.mem_append.mp hd
    · exact h.slide d hd hstate hunmade
    · rw [List.mem_singleton.mp hd, hqueued] at hstate
      cases hstate

theorem retire (h : LitSafely active cs e tr) {c : Course} (hc : c ∈ cs) (hfinished : c.state.isActive = false) :
    LitSafely active (cs.filter fun d => d.id ≠ c.id) e tr := by
  have hkept : ∀ st : OrderState, st.isActive = true → (∃ d ∈ cs, d.state = st) →
      ∃ d ∈ cs.filter fun d => d.id ≠ c.id, d.state = st := by
    rintro _ hactive ⟨d, hd, rfl⟩
    have hne : d.id ≠ c.id := fun heq => by simp [h.marks.eq_of_id hd hc heq, hfinished] at hactive
    exact ⟨d, List.mem_filter.mpr ⟨hd, by simpa using hne⟩, rfl⟩
  exact {
    marks := h.marks.retire hc hfinished
    drives := h.drives
    gate := h.gate
    ready := h.ready
    pass := fun hp => hkept _ rfl (h.pass hp)
    frame := fun k t hp => hkept _ rfl (h.frame k t hp)
    slide := fun d hd => h.slide d (List.mem_of_mem_filter hd) }

end LitSafely

end Sys2Proof.Machine
end

section
/-! PROOFS. The balance of the accounts with the holds of the orders (R139, R140, R146, R151). -/

namespace Sys2Proof.Machine

/-! ## The accounts in the table -/

theorem State.mapAccount_accounts (s : State) (n : Nat) (f : Account → Account) :
    (s.mapAccount n f).accounts.accounts = s.accounts.accounts.map fun a => if a.number = n then f a else a := by
  simp only [AccountTable.accounts, mapAccount, withAccounts_accounts, List.filterMap_map, List.map_filterMap]
  refine congrArg (List.filterMap · _) (funext fun slot => ?_)
  cases slot with
  | none => simp [slotHolds]
  | some a => by_cases h : a.number = n <;> simp [slotHolds, h]

theorem State.changeAccount_accounts (s : State) (n : Nat) (f : Account → Account) :
    (s.changeAccount n f).accounts = (s.mapAccount n f).accounts := by
  unfold changeAccount
  split
  next hnone => rw [mapAccount_of_findAccount_eq_none hnone]
  next => split_ifs <;> simp

theorem State.mem_accounts {s : State} {a : Account} : a ∈ s.accounts.accounts ↔ some a ∈ s.accounts.slots := by
  simp [AccountTable.accounts]

theorem State.findAccount_isSome_iff {s : State} {n : Nat} :
    (s.findAccount n).isSome = true ↔ n ∈ s.accounts.accounts.map Account.number := by
  rw [← not_iff_not, Bool.not_eq_true, Option.isSome_eq_false_iff, Option.isNone_iff_eq_none, findAccount_eq_none_iff]
  simp only [List.mem_map, mem_accounts, not_exists, not_and]
  constructor
  · rintro h a ha rfl
    simpa [slotHolds] using h (some a) ha
  · intro h slot hslot
    cases slot with
    | none => rfl
    | some a => simpa [slotHolds] using h a hslot

theorem State.mem_accounts_of_findAccount {s : State} {n : Nat} {a : Account} (h : s.findAccount n = some a) :
    a ∈ s.accounts.accounts :=
  mem_accounts.mpr (List.mem_of_find?_eq_some (Option.join_eq_some_iff.mp h))

/-- A slot found for a number holds the account found for it. -/
theorem State.slots_of_slotOf {s : State} {n i : Nat} {a : Account} (hfound : s.findAccount n = some a)
    (hslot : s.slotOf n = some i) : s.accounts.slots[i]? = some (some a) := by
  obtain ⟨hlt, hholds, hfirst⟩ := List.findIdx?_eq_some_iff_getElem.mp hslot
  obtain ⟨b, hb, hnumber⟩ := slotHolds_iff.mp hholds
  have hat : s.accounts.slots[i]? = some (some b) := List.getElem?_eq_some_iff.mpr ⟨hlt, hb⟩
  obtain ⟨hfoundb, -⟩ := findAccount_and_slotOf hat hnumber fun j c hj hc hcn => by
    obtain ⟨hjlt, hjc⟩ := List.getElem?_eq_some_iff.mp hc
    exact hfirst j hj (hjc ▸ slotHolds_iff.mpr ⟨c, rfl, hcn⟩)
  rw [hat, ← hfound, hfoundb]

/-- A slot replaced: the other slots keep their accounts. -/
theorem slots_set_perm {slots : List (Option Account)} {i : Nat} {old : Option Account} (hat : slots[i]? = some old)
    (new : Option Account) : ∃ rest : List Account,
      (slots.filterMap id).Perm (old.toList ++ rest) ∧ ((slots.set i new).filterMap id).Perm (new.toList ++ rest) := by
  obtain ⟨hlt, hget⟩ := List.getElem?_eq_some_iff.mp hat
  have hsplit : ∀ x : Option Account, ((slots.take i ++ x :: slots.drop (i + 1)).filterMap id).Perm
      (x.toList ++ ((slots.take i).filterMap id ++ (slots.drop (i + 1)).filterMap id)) := fun x => by
    cases x with
    | none => simp
    | some a => simp [List.perm_middle]
  refine ⟨(slots.take i).filterMap id ++ (slots.drop (i + 1)).filterMap id, ?_, ?_⟩
  · have hslots : slots.take i ++ old :: slots.drop (i + 1) = slots := by
      rw [← hget, ← List.drop_eq_getElem_cons hlt, List.take_append_drop]
    exact (List.Perm.of_eq (congrArg (List.filterMap id) hslots.symm)).trans (hsplit old)
  · rw [List.set_eq_take_append_cons_drop, if_pos hlt]
    exact hsplit new

/-! ## What the orders hold of an account -/

theorem State.heldFor_eq (s : State) (n : Nat) :
    s.heldFor n = (s.orders.table.map fun o => if o.account = n then o.holds else 0).sum := by
  unfold heldFor
  induction s.orders.table with
  | nil => rfl
  | cons o rest ih => by_cases h : o.account = n <;> simp_all

theorem State.heldFor_eq_zero {s : State} {n : Nat} (h : ∀ o ∈ s.orders.table, o.account = n → o.holds = 0) :
    s.heldFor n = 0 := by
  refine List.sum_eq_zero fun amount hamount => ?_
  obtain ⟨o, ho, rfl⟩ := List.mem_map.mp hamount
  obtain ⟨hmem, haccount⟩ := List.mem_filter.mp ho
  exact h o hmem (by simpa using haccount)

theorem State.holds_le_heldFor {s : State} {o : Order} (ho : o ∈ s.orders.table) : o.holds ≤ s.heldFor o.account :=
  List.le_sum_of_mem (List.mem_map_of_mem (List.mem_filter.mpr ⟨ho, by simp⟩))

theorem Order.hold_le_holds (o : Order) (part : HoldPart) : o.hold part ≤ o.holds := by
  cases part <;> simp only [hold, holds] <;> omega

/-- An amount of a part leaves the order's holds. -/
theorem Order.holds_lowerHold (o : Order) (part : HoldPart) {n : Nat} (h : n ≤ o.hold part) :
    (o.lowerHold part n).holds + n = o.holds := by
  cases part <;> simp only [lowerHold, holds, hold] at h ⊢ <;> omega

@[simp] theorem Order.lowerHold_id (o : Order) (part : HoldPart) (n : Nat) : (o.lowerHold part n).id = o.id := by
  cases part <;> rfl
@[simp] theorem Order.lowerHold_account (o : Order) (part : HoldPart) (n : Nat) :
    (o.lowerHold part n).account = o.account := by cases part <;> rfl

theorem sum_map_ite_eq_of_nodup {α : Type} [DecidableEq α] {l : List α} {a : α} (hl : l.Nodup) (ha : a ∈ l) (m : Nat) :
    (l.map fun x => if x = a then m else 0).sum = m := by
  rw [List.sum_map_eq_nsmul_single a _ (fun x hx _ => if_neg hx), List.count_eq_one_of_mem hl ha]
  simp

/-- With ids distinct, what one order's hold loses is what its account's orders hold less. -/
theorem State.heldFor_mapOrder_lowerHold {s : State} {id : Nat} {o : Order} {part : HoldPart} {n : Nat}
    (hdistinct : (s.orders.table.map Order.id).Nodup) (hfound : s.findOrder id = some o) (h : n ≤ o.hold part)
    (number : Nat) :
    (s.mapOrder id fun o => o.lowerHold part n).heldFor number + (if o.account = number then n else 0) =
      s.heldFor number := by
  obtain ⟨hmem, hid⟩ := findOrder_some hfound
  have hone := sum_map_ite_eq_of_nodup hdistinct.of_map hmem (if o.account = number then n else 0)
  rw [heldFor_eq, heldFor_eq, ← hone]
  simp only [mapOrder, withOrders_orders, List.map_map, Function.comp_def]
  rw [← List.sum_map_add]
  refine congrArg List.sum (List.map_congr_left fun q hq => ?_)
  by_cases hqid : q.id = id
  · obtain rfl := eq_of_findOrder hdistinct hfound hq hqid
    have hholds := q.holds_lowerHold part h
    by_cases haccount : q.account = number <;> simp [hqid, haccount]
    exact hholds
  · have hne : q ≠ o := fun heq => hqid (heq ▸ hid)
    simp [hqid, hne]

/-! ## The balance -/

/-- The balance (R146, R151) with the numbers of the accounts in the place of the search for one. -/
structure State.Balanced (s : State) : Prop where
  distinct : (s.orders.table.map Order.id).Nodup
  numbers  : (s.accounts.accounts.map Account.number).Nodup
  held     : ∀ a ∈ s.accounts.accounts, a.held = s.heldFor a.number ∧ a.spent + a.held ≤ a.allowance
  named    : ∀ o ∈ s.orders.table, o.holds ≠ 0 → o.account ∈ s.accounts.accounts.map Account.number
  atReset  : s.power.phase = .held → s.orders.table = []

theorem State.accountsBalance_iff (s : State) : s.accountsBalance ↔ s.Balanced := by
  constructor
  · rintro ⟨hids, hnumbers, hheld, hnamed, hreset⟩
    exact ⟨hids, hnumbers, hheld, fun o ho hne => findAccount_isSome_iff.mp (hnamed o ho hne), hreset⟩
  · rintro ⟨hids, hnumbers, hheld, hnamed, hreset⟩
    exact ⟨hids, hnumbers, hheld, fun o ho hne => findAccount_isSome_iff.mpr (hnamed o ho hne), hreset⟩

namespace State.Balanced

variable {s : State}

/-- A change of records that leaves the ids, the accounts and the holds of the orders. -/
theorem mapOrder (h : s.Balanced) (id : Nat) {f : Order → Order}
    (hf : ∀ o, (f o).id = o.id ∧ (f o).account = o.account ∧ (f o).holds = o.holds) : (s.mapOrder id f).Balanced := by
  have hsame : ∀ o : Order, (if o.id = id then f o else o).id = o.id ∧
      (if o.id = id then f o else o).account = o.account ∧ (if o.id = id then f o else o).holds = o.holds :=
    fun o => by split <;> simp [hf]
  have hheld : ∀ n, (s.mapOrder id f).heldFor n = s.heldFor n := fun n => by
    rw [heldFor_eq, heldFor_eq]
    simp only [State.mapOrder, withOrders_orders, List.map_map, Function.comp_def, hsame]
  refine ⟨?_, h.numbers, fun a ha => hheld _ ▸ h.held a ha, fun o ho hne => ?_, fun hphase => ?_⟩
  · simpa [State.mapOrder, Function.comp_def, hsame] using h.distinct
  · obtain ⟨q, hq, rfl⟩ := List.mem_map.mp ho
    have hq' := hsame q
    simp only [hq'] at hne ⊢
    exact h.named q hq hne
  · simp [State.mapOrder, h.atReset hphase]

/-- A posting or a release moves an amount between the order and its account (R146). -/
theorem moveHold (h : s.Balanced) (id : Nat) (part : HoldPart) (amount : Nat) (posted : Bool) :
    (s.moveHold id part amount posted).Balanced := by
  unfold State.moveHold
  cases hfound : s.findOrder id with
  | none => exact h
  | some o =>
    obtain ⟨hmem, hid⟩ := findOrder_some hfound
    dsimp only
    have hpart : min amount (o.hold part) ≤ o.hold part := Nat.min_le_right _ _
    generalize min amount (o.hold part) = moved at hpart ⊢
    have hheld := heldFor_mapOrder_lowerHold h.distinct hfound hpart
    have hmoved : moved ≤ s.heldFor o.account :=
      hpart.trans ((o.hold_le_holds part).trans (holds_le_heldFor hmem))
    generalize hu : (s.mapOrder id fun o => o.lowerHold part moved) = u at hheld ⊢
    have haccounts : u.accounts = s.accounts := by rw [← hu]; rfl
    have htable : u.orders.table = s.orders.table.map fun q => if q.id = id then q.lowerHold part moved else q := by
      rw [← hu]; rfl
    have hsame : ∀ q : Order, (if q.id = id then q.lowerHold part moved else q).id = q.id ∧
        (if q.id = id then q.lowerHold part moved else q).account = q.account := fun q => by split <;> simp
    have hless : ∀ q : Order, (if q.id = id then q.lowerHold part moved else q).holds ≠ 0 → q.holds ≠ 0 := by
      intro q hne hzero
      apply hne
      split
      · have hzeros : q.setupHold = 0 ∧ q.frameHold = 0 ∧ q.labelHold = 0 := by unfold Order.holds at hzero; omega
        cases part <;> simp [Order.lowerHold, Order.holds, hzeros]
      · exact hzero
    have hnumbers : ((u.accounts.accounts.map fun a => if a.number = o.account then
        { a with held := a.held - moved, spent := if posted then a.spent + moved else a.spent } else a).map
        Account.number) = s.accounts.accounts.map Account.number := by
      rw [haccounts, List.map_map]
      exact List.map_congr_left fun a _ => by simp only [Function.comp_apply]; split <;> rfl
    refine ⟨?_, ?_, fun a ha => ?_, fun q hq hne => ?_, fun hphase => ?_⟩
    · rw [changeAccount_orders, htable]
      simpa [Function.comp_def, hsame] using h.distinct
    · rw [changeAccount_accounts, mapAccount_accounts, hnumbers]
      exact h.numbers
    · rw [changeAccount_accounts, mapAccount_accounts, haccounts] at ha
      obtain ⟨b, hb, rfl⟩ := List.mem_map.mp ha
      obtain ⟨hbheld, hballow⟩ := h.held b hb
      have hfor : (u.changeAccount o.account fun a => { a with
          held := a.held - moved, spent := if posted then a.spent + moved else a.spent }).heldFor b.number =
          u.heldFor b.number := by simp only [heldFor, changeAccount_orders]
      have hb' := hheld b.number
      by_cases hn : b.number = o.account
      · simp only [hn, if_true] at hfor hb' hbheld ⊢
        rw [hfor]
        refine ⟨by omega, ?_⟩
        cases posted <;> simp <;> omega
      · simp only [if_neg hn, if_neg (Ne.symm hn)] at hb' ⊢
        rw [hfor]
        omega
    · rw [changeAccount_orders, htable] at hq
      obtain ⟨p, hp, rfl⟩ := List.mem_map.mp hq
      rw [changeAccount_accounts, mapAccount_accounts, hnumbers, (hsame p).2]
      exact h.named p hp (hless p hne)
    · rw [changeAccount_orders, htable, h.atReset (by simpa [← hu] using hphase)]
      rfl

theorem withNotices (h : s.Balanced) (n : NoticeUnit) : (s.withNotices n).Balanced :=
  ⟨h.distinct, h.numbers, h.held, h.named, h.atReset⟩

theorem unmark (h : s.Balanced) (a : Option Nat) : (s.withOrders { s.orders with active := a }).Balanced :=
  ⟨h.distinct, h.numbers, h.held, h.named, h.atReset⟩

theorem finishOrder (h : s.Balanced) (id : Nat) (final : OrderState) : (s.finishOrder id final).Balanced :=
  finishOrder_keeps id final h (h.mapOrder id fun _ => ⟨rfl, rfl, rfl⟩) (fun _ part amount hu => hu.moveHold id part amount false)
    (fun _ _ hu => hu.mapOrder id fun _ => ⟨rfl, rfl, rfl⟩) (fun _ hu => hu.unmark none)
    fun _ hu => (hu.withNotices _).withNotices _

/-- A change of an account that keeps its number, its held money and its allowance, and spends no more. -/
theorem changeAccount (h : s.Balanced) (n : Nat) {f : Account → Account}
    (hf : ∀ a, (f a).number = a.number ∧ (f a).held = a.held ∧ (f a).allowance = a.allowance ∧ (f a).spent ≤ a.spent) :
    (s.changeAccount n f).Balanced := by
  have hsame : ∀ a : Account, (if a.number = n then f a else a).number = a.number := fun a => by split <;> simp [hf]
  have hnumbers : (s.changeAccount n f).accounts.accounts.map Account.number =
      s.accounts.accounts.map Account.number := by
    simp only [changeAccount_accounts, mapAccount_accounts, List.map_map, Function.comp_def, hsame]
  have hheld : ∀ m, (s.changeAccount n f).heldFor m = s.heldFor m := fun m => by
    simp only [heldFor, changeAccount_orders]
  refine ⟨by simpa using h.distinct, hnumbers ▸ h.numbers, fun a ha => ?_, ?_, by simpa using h.atReset⟩
  · rw [changeAccount_accounts, mapAccount_accounts] at ha
    obtain ⟨b, hb, rfl⟩ := List.mem_map.mp ha
    obtain ⟨hbheld, hballow⟩ := h.held b hb
    obtain ⟨-, hheldf, hallowf, hspentf⟩ := hf b
    rw [hheld, hsame]
    split
    · omega
    · exact ⟨hbheld, hballow⟩
  · rw [hnumbers]
    simpa using h.named

/-- An order admitted with the hold placed on its account (R5, R145). -/
theorem enroll (h : s.Balanced) {o : Order} {a : Account} (hnew : s.findOrder o.id = none)
    (hphase : s.power.phase ≠ .held) (haccount : s.findAccount o.account = some a) (hcovered : o.holds ≤ a.available) :
    ((s.placeHold o.account o.holds).appendOrder o).Balanced := by
  have hfor : ∀ n, ((s.placeHold o.account o.holds).appendOrder o).heldFor n =
      s.heldFor n + if o.account = n then o.holds else 0 := fun n => by
    simp [heldFor_eq, appendOrder, placeHold]
  have haccounts : ((s.placeHold o.account o.holds).appendOrder o).accounts.accounts =
      s.accounts.accounts.map fun a => if a.number = o.account then { a with held := a.held + o.holds } else a := by
    change (s.placeHold o.account o.holds).accounts.accounts = _
    rw [placeHold, changeAccount_accounts, mapAccount_accounts]
  have hnumbers : ((s.placeHold o.account o.holds).appendOrder o).accounts.accounts.map Account.number =
      s.accounts.accounts.map Account.number := by
    rw [haccounts, List.map_map]
    exact List.map_congr_left fun a _ => by simp only [Function.comp_apply]; split <;> rfl
  have htable : ((s.placeHold o.account o.holds).appendOrder o).orders.table = s.orders.table ++ [o] := by
    simp [appendOrder, placeHold]
  have hfirst := findAccount_number haccount
  have hmem := mem_accounts_of_findAccount haccount
  refine ⟨?_, hnumbers ▸ h.numbers, fun b hb => ?_, fun q hq hne => ?_, fun hheld => ?_⟩
  · have hfresh : ∀ q ∈ s.orders.table, q.id ≠ o.id := by simpa [findOrder] using hnew
    rw [htable, List.map_append, List.nodup_append]
    exact ⟨h.distinct, List.nodup_singleton _, by simpa using hfresh⟩
  · rw [haccounts] at hb
    obtain ⟨c, hc, rfl⟩ := List.mem_map.mp hb
    obtain ⟨hcheld, hcallow⟩ := h.held c hc
    rw [hfor]
    by_cases hn : c.number = o.account
    · obtain rfl : c = a := List.inj_on_of_nodup_map h.numbers hc hmem (hn.trans hfirst.symm)
      simp only [hn, if_true] at hcheld ⊢
      unfold Account.available at hcovered
      omega
    · simp only [if_neg hn, if_neg (Ne.symm hn)]
      omega
  · rw [hnumbers]
    rw [htable, List.mem_append, List.mem_singleton] at hq
    obtain hq | rfl := hq
    · exact h.named q hq hne
    · exact hfirst ▸ List.mem_map_of_mem hmem
  · exact absurd (by simpa [appendOrder, placeHold] using hheld) hphase

/-- An order that holds nothing leaves the table (R26). -/
theorem retire (h : s.Balanced) {o : Order} (ho : o ∈ s.orders.table) (hnone : o.holds = 0) :
    (s.withOrders { s.orders with table := s.orders.table.filter fun p => p.id ≠ o.id }).Balanced := by
  have hfor : ∀ n, (s.withOrders { s.orders with table := s.orders.table.filter fun p => p.id ≠ o.id }).heldFor n =
      s.heldFor n := fun n => by
    rw [heldFor_eq, heldFor_eq]
    have hzero : ∀ q ∈ s.orders.table, ¬ q.id ≠ o.id → (if q.account = n then q.holds else 0) = 0 := fun q hq hid => by
      rw [List.inj_on_of_nodup_map h.distinct hq ho (not_not.mp hid), hnone, ite_self]
    simp only [withOrders_orders]
    generalize s.orders.table = table at hzero
    induction table with
    | nil => rfl
    | cons q rest ih =>
      have ih := ih fun p hp => hzero p (List.mem_cons_of_mem _ hp)
      by_cases hid : q.id = o.id
      · have hq := hzero q List.mem_cons_self (not_not.mpr hid)
        simp_all
      · simp_all
  refine ⟨?_, h.numbers, fun a ha => hfor _ ▸ h.held a ha, fun q hq hne => ?_, fun hphase => ?_⟩
  · exact (h.distinct.sublist ((List.filter_sublist).map _))
  · exact h.named q (List.mem_of_mem_filter hq) hne
  · simp [h.atReset hphase]

/-- A slot replaced: what it then holds agrees with the orders and has a number of its own, and what it held before
keeps its number, or nothing is held for it. -/
theorem setSlot (h : s.Balanced) {i : Nat} {old : Option Account} (hat : s.accounts.slots[i]? = some old)
    (new : Option Account)
    (hnew : ∀ b, new = some b → b.held = s.heldFor b.number ∧ b.spent + b.held ≤ b.allowance ∧
      (b.number ∈ s.accounts.accounts.map Account.number → ∃ a, old = some a ∧ a.number = b.number))
    (hold : ∀ a, old = some a → (∃ b, new = some b ∧ b.number = a.number) ∨ s.heldFor a.number = 0) :
    (s.withSlot i new).Balanced := by
  obtain ⟨rest, hbefore, hafter⟩ := slots_set_perm hat new
  change s.accounts.accounts.Perm _ at hbefore
  change (s.withSlot i new).accounts.accounts.Perm _ at hafter
  have hdistinct := (hbefore.map Account.number).nodup_iff.mp h.numbers
  rw [List.map_append, List.nodup_append] at hdistinct
  obtain ⟨-, hrest, hapart⟩ := hdistinct
  refine ⟨h.distinct, ?_, fun b hb => ?_, fun o ho hne => ?_, h.atReset⟩
  · rw [(hafter.map Account.number).nodup_iff, List.map_append, List.nodup_append]
    refine ⟨by cases new <;> simp, hrest, fun m hm n hn heq => ?_⟩
    subst heq
    obtain ⟨b, hb, rfl⟩ := List.mem_map.mp hm
    obtain ⟨-, -, hold⟩ := hnew b (by simpa using hb)
    have hmem : b.number ∈ s.accounts.accounts.map Account.number :=
      (hbefore.map Account.number).mem_iff.mpr (by rw [List.map_append]; exact List.mem_append_right _ hn)
    obtain ⟨a, rfl, hnumber⟩ := hold hmem
    exact hapart a.number (by simp) b.number hn hnumber
  · obtain hb | hb := List.mem_append.mp (hafter.mem_iff.mp hb)
    · obtain ⟨hheld, hallow, -⟩ := hnew b (by simpa using hb)
      exact ⟨hheld, hallow⟩
    · exact h.held b (hbefore.mem_iff.mpr (List.mem_append_right _ hb))
  · have hmem := h.named o ho hne
    rw [(hbefore.map Account.number).mem_iff, List.map_append, List.mem_append] at hmem
    rw [(hafter.map Account.number).mem_iff, List.map_append, List.mem_append]
    obtain hmem | hmem := hmem
    · left
      obtain ⟨a, ha, hnumber⟩ := List.mem_map.mp hmem
      obtain ⟨b, rfl, hb⟩ | hzero := hold a (by simpa using ha)
      · simp [hb, hnumber]
      · exact absurd (Nat.le_zero.mp (hzero ▸ hnumber ▸ holds_le_heldFor ho)) hne
    · exact .inr hmem

/-- With no order in the table nothing is held. -/
theorem of_no_orders (htable : s.orders.table = [])
    (hnumbers : (s.accounts.accounts.map Account.number).Nodup)
    (hheld : ∀ a ∈ s.accounts.accounts, a.held = 0 ∧ a.spent ≤ a.allowance) : s.Balanced where
  distinct := by simp [htable]
  numbers := hnumbers
  held a ha := by
    obtain ⟨hzero, hspent⟩ := hheld a ha
    simp [heldFor, htable, hzero, hspent]
  named := by simp [htable]
  atReset _ := htable

end State.Balanced

/-! ## The accounts a load gives (R139, R163) -/

/-- An account place gives an account that holds nothing and has spent no more than its allowance. -/
theorem accountOf_bounds {image : List Byte} {a : Account} (h : accountOf image = some a) :
    a.held = 0 ∧ a.spent ≤ a.allowance := by
  unfold accountOf at h
  split at h
  · cases h
  next r hjudged =>
    cases h
    unfold judge at hjudged
    split_ifs at hjudged
    split at hjudged
    next r' hread =>
      cases hjudged
      unfold readAccount at hread
      dsimp only at hread
      split_ifs at hread with hcond
      cases hread
      simp only [Bool.and_eq_true, Account.inRange, decide_eq_true_eq] at hcond
      exact ⟨rfl, hcond.2.2⟩
    next => cases hjudged
  · obtain ⟨n, -, rfl⟩ := Option.map_eq_some_iff.mp h
    exact ⟨rfl, le_rfl⟩

theorem mem_loadSlots {seen : List Nat} {images : List (List Byte)} {a : Account}
    (h : some a ∈ loadSlots seen images) : ∃ image ∈ images, accountOf image = some a := by
  induction images generalizing seen with
  | nil => cases h
  | cons image rest ih =>
    have hrest : ∀ {seen : List Nat}, some a ∈ loadSlots seen rest → ∃ i ∈ image :: rest, accountOf i = some a :=
      fun h => have ⟨i, hi, hai⟩ := ih h; ⟨i, List.mem_cons_of_mem _ hi, hai⟩
    unfold loadSlots at h
    split at h
    next => exact hrest (by simpa using h)
    next b hb =>
      split_ifs at h
      · exact hrest (by simpa using h)
      · obtain heq | h := List.mem_cons.mp h
        · cases heq
          exact ⟨image, List.mem_cons_self, hb⟩
        · exact hrest h

/-- The numbers a load gives are distinct, and none of them was seen before. -/
theorem loadSlots_numbers (seen : List Nat) (images : List (List Byte)) :
    (((loadSlots seen images).filterMap id).map Account.number).Nodup ∧
      ∀ n ∈ ((loadSlots seen images).filterMap id).map Account.number, n ∉ seen := by
  induction images generalizing seen with
  | nil => simp [loadSlots]
  | cons image rest ih =>
    unfold loadSlots
    split
    · simpa using ih seen
    next a ha =>
      split_ifs with hseen
      · simpa using ih seen
      · obtain ⟨hdistinct, hfresh⟩ := ih (a.number :: seen)
        have hcons : (some a :: loadSlots (a.number :: seen) rest).filterMap id =
            a :: (loadSlots (a.number :: seen) rest).filterMap id := rfl
        simp only [hcons, List.map_cons, List.nodup_cons, List.mem_cons, forall_eq_or_imp]
        refine ⟨⟨fun hmem => hfresh _ hmem List.mem_cons_self, hdistinct⟩, by simpa using hseen, fun n hn hmem => ?_⟩
        exact hfresh n hn (List.mem_cons_of_mem _ hmem)

end Sys2Proof.Machine
end

section
/-! PROOFS. The form of the Settings Store (R161, R165, R166) and the limits of the tables (R3, R100, R121, R122), and what
the operations on them do. -/

namespace Sys2Proof.Machine

/-! ## The images of places -/

@[simp] theorem byteField_length (n : Nat) : (byteField n).length = 1 := rfl
@[simp] theorem pairField_length (n : Nat) : (pairField n).length = 2 := rfl
@[simp] theorem quadField_length (n : Nat) : (quadField n).length = 4 := rfl
@[simp] theorem signedByteField_length (z : Int) : (signedByteField z).length = 1 := rfl
@[simp] theorem flagField_length (b : Bool) : (flagField b).length = 1 := rfl

theorem byteSum_append (a b : List Byte) : byteSum (a ++ b) = byteSum a + byteSum b := by
  induction a with
  | nil => simp [byteSum]
  | cons x rest ih =>
    have hx : ∀ l : List Byte, byteSum (x :: l) = x + byteSum l := fun _ => rfl
    rw [List.cons_append, hx, hx, ih, BitVec.add_assoc]

/-- Bytes with their check byte sum to what they are to sum to (R161, R181). -/
theorem byteSum_withCheck (total : Byte) (b : List Byte) : byteSum (withCheck total b) = total := by
  have hcheck : byteSum [total - byteSum b] = total - byteSum b := BitVec.add_zero _
  rw [withCheck, byteSum_append, hcheck, BitVec.add_comm, BitVec.sub_add_cancel]

@[simp] theorem withCheck_length (total : Byte) (b : List Byte) : (withCheck total b).length = b.length + 1 := by
  simp [withCheck]

/-- What a place may hold while it is being written (R161, R166). -/
structure ImageOk (place : Nat) (image : List Byte) : Prop where
  size : image.length = Config.placeSize place
  sums : image = erasedPlace place ∨ byteSum image = Config.placeSum

theorem imageOk_erased (place : Nat) : ImageOk place (erasedPlace place) := ⟨List.length_replicate, .inl rfl⟩

theorem imageOk_stored {place : Nat} {fields : List Byte} (h : fields.length + 1 = Config.placeSize place) :
    ImageOk place (withCheck Config.placeSum fields) :=
  ⟨(withCheck_length _ _).trans h, .inr (byteSum_withCheck _ _)⟩

theorem imageOk_getD {α : Type} {place : Nat} {fields : α → List Byte} (record : Option α)
    (h : ∀ r, (fields r).length + 1 = Config.placeSize place) :
    ImageOk place ((record.map fun r => withCheck Config.placeSum (fields r)).getD (erasedPlace place)) := by
  cases record with
  | none => exact imageOk_erased place
  | some r => exact imageOk_stored (h r)

/-- The working copy of every place has an image of the place's size that is blank or sums to 90. -/
theorem State.image_ok (s : State) (place : Nat) : ImageOk place (s.image place) := by
  unfold image
  dsimp only
  split_ifs with hzero hfilm hrates
  · exact imageOk_stored (by simp [hzero, StandCalibration.fields, Config.placeSize])
  · exact imageOk_getD _ fun f => by simp [FilmKind.fields, Config.placeSize, hzero, hfilm]
  · exact imageOk_getD _ fun r => by simp [RateCard.fields, Config.placeSize, hrates]
  · exact imageOk_getD _ fun a => by simp [Account.fields, Config.placeSize, hzero, hfilm, hrates]

/-! ## The form of the store -/

/-- The part of the store's form that is the store's own (R161, R165, R166). -/
structure SettingsStore.Formed (t : SettingsStore) : Prop where
  places : t.places.length = 38
  dirty  : t.dirty.length = 38
  sizes  : ∀ p, p < 38 → (t.place p).length = Config.placeSize p
  engine : ∀ w, t.engine = some w → w.place < 38 ∧ ImageOk w.place w.image

/-- The store's form with the number of the working copies. -/
structure State.StoreFormed (s : State) : Prop where
  store : s.store.Formed
  films : s.films.length = 4
  slots : s.accounts.slots.length = Config.accountSlots

theorem State.storeKept_iff (s : State) : s.storeKept ↔ s.StoreFormed := by
  constructor
  · rintro ⟨hplaces, hdirty, hfilms, hslots, hsizes, hengine⟩
    exact ⟨⟨hplaces, hdirty, hsizes, fun w hw =>
      have ⟨hplace, hsize, hsums⟩ := hengine w hw; ⟨hplace, hsize, hsums⟩⟩, hfilms, hslots⟩
  · rintro ⟨⟨hplaces, hdirty, hsizes, hengine⟩, hfilms, hslots⟩
    exact ⟨hplaces, hdirty, hfilms, hslots, hsizes, fun w hw =>
      have ⟨hplace, hsize, hsums⟩ := hengine w hw; ⟨hplace, hsize, hsums⟩⟩

namespace SettingsStore.Formed

variable {t : SettingsStore}

theorem setDirty (h : t.Formed) (place : Nat) (mark : Bool) : { t with dirty := t.dirty.set place mark }.Formed :=
  ⟨h.places, by simpa using h.dirty, h.sizes, h.engine⟩

/-- A place takes an image of its size, and the engine is IDLE. -/
theorem setPlace (h : t.Formed) {place : Nat} {image : List Byte} (hsize : image.length = Config.placeSize place) :
    { t with places := t.places.set place image, engine := none }.Formed := by
  refine ⟨by simpa using h.places, h.dirty, fun p hp => ?_, by simp⟩
  have hplaces := h.places
  by_cases heq : p = place
  · subst heq
    simp [SettingsStore.place, List.getD_eq_getElem?_getD, List.getElem?_set_self (show p < t.places.length by omega), hsize]
  · simpa [SettingsStore.place, List.getD_eq_getElem?_getD, List.getElem?_set_ne (Ne.symm heq)] using h.sizes p hp

/-- Any change that leaves the places, the marks' number and the write under way. -/
theorem congr (h : t.Formed) {u : SettingsStore} (hplaces : u.places = t.places) (hdirty : u.dirty.length = 38)
    (hengine : ∀ w, u.engine = some w → w.place < 38 ∧ ImageOk w.place w.image) : u.Formed :=
  ⟨hplaces ▸ h.places, hdirty, by simpa only [SettingsStore.place, hplaces] using h.sizes, hengine⟩

end SettingsStore.Formed

theorem SettingsStore.lowestDirty_lt {t : SettingsStore} {p : Nat} (h : t.lowestDirty = some p) : p < t.dirty.length :=
  (List.findIdx?_eq_some_iff_getElem.mp h).1

namespace State.StoreFormed

variable {s : State}

theorem startWrite (h : s.StoreFormed) : s.startWrite.StoreFormed := by
  unfold State.startWrite
  split
  next p _ hlowest =>
    have hp : p < 38 := h.store.dirty ▸ SettingsStore.lowestDirty_lt hlowest
    refine ⟨h.store.congr rfl (by simpa using h.store.dirty) fun w hw => ?_, h.films, h.slots⟩
    obtain rfl := Option.some.inj hw
    exact ⟨hp, s.image_ok p⟩
  · exact h

theorem withStore (h : s.StoreFormed) {t : SettingsStore} (ht : t.Formed) : (s.withStore t).StoreFormed :=
  ⟨ht, h.films, h.slots⟩

theorem markDirty (h : s.StoreFormed) (place : Nat) : (s.markDirty place).StoreFormed :=
  (h.withStore (h.store.setDirty place true)).startWrite

theorem changeAccount (h : s.StoreFormed) (n : Nat) (f : Account → Account) : (s.changeAccount n f).StoreFormed := by
  have hmapped : (s.mapAccount n f).StoreFormed := ⟨h.store, h.films, by simpa [mapAccount] using h.slots⟩
  have hmarked : ((s.mapAccount n f).markAccount n).StoreFormed := by
    unfold markAccount
    split
    · exact hmapped.markDirty _
    · exact hmapped
  have hnoted : ∀ (u : State) (before after : Bool), u.StoreFormed → (u.noteLow before after).StoreFormed :=
    fun u _ _ hu => ⟨by simpa using hu.store, by simpa using hu.films, by simpa using hu.slots⟩
  unfold State.changeAccount
  split
  · exact h
  · exact hnoted _ _ _ (iteInduction (fun _ => hmarked) fun _ => hmapped)

theorem moveHold (h : s.StoreFormed) (id : Nat) (part : HoldPart) (amount : Nat) (posted : Bool) :
    (s.moveHold id part amount posted).StoreFormed := by
  unfold State.moveHold
  split
  · exact h
  · exact changeAccount (s := s.mapOrder _ _) ⟨h.store, h.films, h.slots⟩ _ _

theorem finishOrder (h : s.StoreFormed) (id : Nat) (final : OrderState) : (s.finishOrder id final).StoreFormed :=
  finishOrder_keeps id final h ⟨h.store, h.films, h.slots⟩ (fun _ part amount hu => hu.moveHold id part amount false)
    (fun _ _ hu => ⟨hu.store, hu.films, hu.slots⟩) (fun _ hu => ⟨hu.store, hu.films, hu.slots⟩)
    fun _ hu => ⟨hu.store, hu.films, hu.slots⟩

end State.StoreFormed

theorem tornImage_length (place : Nat) (torn : List Byte) : (tornImage place torn).length = Config.placeSize place := by
  simp [tornImage, erasedPlace]

theorem loadSlots_length (seen : List Nat) (images : List (List Byte)) :
    (loadSlots seen images).length = images.length := by
  induction images generalizing seen with
  | nil => rfl
  | cons image rest ih =>
    unfold loadSlots
    split
    · simp [ih]
    · split_ifs <;> simp [ih]

theorem settingsStore_reset_formed : SettingsStore.reset.Formed := by
  refine ⟨by simp [SettingsStore.reset], by simp [SettingsStore.reset], fun p hp => ?_, by simp [SettingsStore.reset]⟩
  simp [SettingsStore.place, SettingsStore.reset, List.getD_eq_getElem?_getD, hp]

/-! ## The limits of the tables -/

/-- The label queue and the printer agree, and the queue keeps its limit (R121, R122, R131). -/
structure LabelUnit.Orderly (l : LabelUnit) : Prop where
  queue   : l.queue.length ≤ Config.maxLabels
  printer : match l.printer with
    | .idle => l.queue = []
    | .sending label index => l.queue ≠ [] ∧ index < label.length
    | .feeding _ _ => l.queue ≠ []
    | .stockOut | .faulted _ => True

/-- The limits of the tables (R3, R100, R121). -/
structure State.TablesFit (s : State) : Prop where
  orders  : s.orders.table.length ≤ Config.maxOrders
  rolls   : s.rolls.length ≤ Config.maxRolls
  labels  : s.labels.Orderly
  atReset : s.power.phase = .held → s.labels.queue = []

theorem State.tablesKept_iff (s : State) : s.tablesKept ↔ s.TablesFit := by
  constructor
  · rintro ⟨horders, hrolls, hqueue, hprinter, hreset⟩
    exact ⟨horders, hrolls, ⟨hqueue, hprinter⟩, hreset⟩
  · rintro ⟨horders, hrolls, ⟨hqueue, hprinter⟩, hreset⟩
    exact ⟨horders, hrolls, hqueue, hprinter, hreset⟩

/-- A label is never empty: its last byte is the form feed (R123). -/
theorem composeLabel_length_pos (s : State) (e : LabelEntry) : 0 < (s.composeLabel e).length := by
  simp [State.composeLabel, labelBytes]

namespace LabelUnit.Orderly

variable {l : LabelUnit}

/-- Only the queue and the printer state count. -/
theorem congr (h : l.Orderly) {m : LabelUnit} (hqueue : m.queue = l.queue) (hprinter : m.printer = l.printer) :
    m.Orderly :=
  ⟨hqueue ▸ h.queue, by rw [hprinter, hqueue]; exact h.printer⟩

theorem offer (h : l.Orderly) : l.offer.Orderly := h.congr (by simp) (by simp)

/-- The printer stands idle with no label waiting, or is at work on the head of the queue, or has an alarm. -/
theorem enter_fails (h : l.Orderly) {p : Printer} (hp : p = .stockOut ∨ ∃ cause, p = .faulted cause) :
    (l.enter p).Orderly := by
  refine ⟨h.queue, ?_⟩
  rcases hp with rfl | ⟨cause, rfl⟩ <;> trivial

theorem tick (h : l.Orderly) : l.tick.Orderly := by
  unfold LabelUnit.tick
  split
  · exact (h.congr (m := { l with wait := countUp Config.busyLimit l.wait }) rfl rfl).offer
  · exact h.congr rfl rfl
  all_goals exact h

end LabelUnit.Orderly

/-- The head of the queue begins printing, or there is none: either way an IDLE printer is orderly (R122). -/
theorem State.beginPrinting_orderly {s : State} (hqueue : s.labels.queue.length ≤ Config.maxLabels)
    (hprinter : s.labels.printer = .idle ∨ s.labels.Orderly) : s.beginPrinting.labels.Orderly := by
  unfold beginPrinting
  split
  next e rest hidle hhead =>
    exact ⟨by simpa using hqueue, by simp [hhead, composeLabel_length_pos]⟩
  next hother =>
    obtain hidle | horderly := hprinter
    · have hempty : s.labels.queue = [] := by
        cases hq : s.labels.queue with
        | nil => rfl
        | cons e rest => exact absurd hq (hother e rest hidle)
      exact ⟨hqueue, by rw [hidle]; exact hempty⟩
    · exact horderly

end Sys2Proof.Machine
end

section
/-! PROOFS. What a step keeps, said once: six promises side by side, each operation kept by them all. -/

namespace Sys2Proof.Machine

/-- The light as its clauses read it: the mark, the courses of the orders, the Exposure Unit and the transport. -/
def State.LightFits (s : State) : Prop :=
  LitSafely s.orders.active s.courses s.exposure s.transport.state

/-! ## What each promise reads -/

section
variable {s t : State}

theorem State.noticeSetsClear_congr (h : s.noticeSetsClear) (hnotices : t.notices = s.notices := by simp) :
    t.noticeSetsClear := by
  unfold noticeSetsClear
  rwa [hnotices]

theorem State.courses_congr (horders : t.orders = s.orders) : t.courses = s.courses := by rw [courses, horders]; rfl

theorem State.marks_congr (h : MarksActive s.orders.active s.courses) (horders : t.orders = s.orders := by simp) :
    MarksActive t.orders.active t.courses := by rwa [courses_congr horders, horders]

theorem State.Balanced.congr (h : s.Balanced) (horders : t.orders.table = s.orders.table := by simp)
    (hslots : t.accounts.slots = s.accounts.slots := by simp) (hphase : t.power.phase = s.power.phase := by simp) :
    t.Balanced := by
  have haccounts : t.accounts.accounts = s.accounts.accounts := by simp only [AccountTable.accounts, hslots]
  have hfor : ∀ n, t.heldFor n = s.heldFor n := fun n => by simp only [heldFor, horders]
  exact ⟨horders ▸ h.distinct, haccounts ▸ h.numbers, fun a ha => hfor _ ▸ h.held a (haccounts ▸ ha),
    fun o ho hne => haccounts ▸ h.named o (horders ▸ ho) hne, fun hheld => horders ▸ h.atReset (hphase ▸ hheld)⟩

theorem State.LightFits.congr (h : s.LightFits) (horders : t.orders = s.orders := by simp)
    (hexposure : t.exposure = s.exposure := by simp) (htransport : t.transport.state = s.transport.state := by simp) :
    t.LightFits := by
  unfold LightFits
  rwa [courses_congr horders, horders, hexposure, htransport]

theorem State.TablesFit.congr (h : s.TablesFit) (horders : t.orders.table.length = s.orders.table.length := by simp)
    (hrolls : t.rolls.length = s.rolls.length := by simp) (hlabels : t.labels = s.labels := by simp)
    (hphase : t.power.phase = s.power.phase := by simp) : t.TablesFit :=
  ⟨horders ▸ h.orders, hrolls ▸ h.rolls, hlabels ▸ h.labels, fun hheld => hlabels ▸ h.atReset (hphase ▸ hheld)⟩

theorem State.StoreFormed.congr (h : s.StoreFormed) (hstore : t.store = s.store := by simp)
    (hfilms : t.films.length = s.films.length := by simp)
    (hslots : t.accounts.slots.length = s.accounts.slots.length := by simp) : t.StoreFormed :=
  ⟨hstore ▸ h.store, hfilms ▸ h.films, hslots ▸ h.slots⟩

end

theorem State.length_courses (s : State) : s.courses.length = s.orders.table.length := List.length_map _

theorem Notice.bit_lt (n : Notice) : n.bit.toNat < 16384 := by cases n <;> decide

/-! ## The notice sets (R199) -/

section
variable {s : State}

/-- Any notice raised is of a kind up to 13. -/
theorem State.noticeSetsClear_raise (h : s.noticeSetsClear) (n : Notice) : (s.raise n).noticeSetsClear := by
  obtain ⟨hpending, henabled⟩ := h
  exact ⟨(BitVec.toNat_or (s.notices.pending) n.bit).symm ▸ Nat.or_lt_two_pow (n := 14) hpending n.bit_lt, henabled⟩

theorem State.noticeSetsClear_changeAccount (h : s.noticeSetsClear) (n : Nat) (f : Account → Account) :
    (s.changeAccount n f).noticeSetsClear := by
  have hmarked : ∀ u : State, u.noticeSetsClear → (u.markAccount n).noticeSetsClear := fun u hu => noticeSetsClear_congr hu
  unfold changeAccount
  split
  · exact h
  next a _ =>
    have hchanged : (s.mapAccount n f).noticeSetsClear := h
    exact iteInduction (fun _ => noticeSetsClear_raise (iteInduction (fun _ => hmarked _ hchanged) fun _ => hchanged) _)
      fun _ => iteInduction (fun _ => hmarked _ hchanged) fun _ => hchanged

theorem State.noticeSetsClear_moveHold (h : s.noticeSetsClear) (id : Nat) (part : HoldPart) (amount : Nat)
    (posted : Bool) : (s.moveHold id part amount posted).noticeSetsClear := by
  unfold moveHold
  split
  · exact h
  · exact noticeSetsClear_changeAccount (s := s.mapOrder _ _) h _ _

theorem State.noticeSetsClear_finishOrder (h : s.noticeSetsClear) (id : Nat) (final : OrderState) :
    (s.finishOrder id final).noticeSetsClear :=
  finishOrder_keeps id final h h (fun _ _ _ hu => noticeSetsClear_moveHold hu _ _ _ _) (fun _ _ hu => hu)
    (fun _ hu => hu) fun u hu => noticeSetsClear_raise (s := u.withNotices { u.notices with lastFinished := id }) hu _

end

/-! ## The six promises -/

/-- What a state reached from another keeps of what held there. `lit`: whether the light is followed as well. -/
structure Kept (lit : Prop) (s₀ s : State) : Prop where
  notices : s₀.noticeSetsClear → s.noticeSetsClear
  mark    : s₀.markHolds → MarksActive s.orders.active s.courses
  balance : s₀.accountsBalance → s.Balanced
  light   : lit → s₀.lightSafe → s.LightFits
  tables  : s₀.tablesKept → s.TablesFit
  store   : s₀.storeKept → s.StoreFormed

variable {lit : Prop} {s₀ s : State}

theorem Kept.refl (lit : Prop) (s : State) : Kept lit s s :=
  ⟨fun h => h, s.markHolds_iff.mp, s.accountsBalance_iff.mp, fun _ => s.lightSafe_iff.mp, s.tablesKept_iff.mp,
    s.storeKept_iff.mp⟩

namespace Kept

/-! ## Blocks that no promise reads -/

/-- A change that reaches nothing any promise reads. -/
theorem congr (h : Kept lit s₀ s) {t : State} (hnotices : t.notices = s.notices := by simp)
    (horders : t.orders = s.orders := by simp) (hexposure : t.exposure = s.exposure := by simp)
    (htransport : t.transport.state = s.transport.state := by simp)
    (hrolls : t.rolls.length = s.rolls.length := by simp) (hlabels : t.labels = s.labels := by simp)
    (hslots : t.accounts.slots = s.accounts.slots := by simp) (hstore : t.store = s.store := by simp)
    (hfilms : t.films.length = s.films.length := by simp) (hphase : t.power.phase = s.power.phase := by simp) :
    Kept lit s₀ t where
  notices hn := State.noticeSetsClear_congr (h.notices hn) hnotices
  mark hm := State.marks_congr (h.mark hm) horders
  balance hb := (h.balance hb).congr (by rw [horders]) hslots hphase
  light hl hs := (h.light hl hs).congr horders hexposure htransport
  tables ht := (h.tables ht).congr (by rw [horders]) hrolls hlabels hphase
  store hs := (h.store hs).congr hstore hfilms (by rw [hslots])

theorem withLine (h : Kept lit s₀ s) (l : LinePort) : Kept lit s₀ (s.withLine l) := h.congr
theorem withMetering (h : Kept lit s₀ s) (m : MeteringUnit) : Kept lit s₀ (s.withMetering m) := h.congr
theorem withCalibration (h : Kept lit s₀ s) (c : StandCalibration) : Kept lit s₀ (s.withCalibration c) := h.congr
theorem withPanel (h : Kept lit s₀ s) (p : Panel) : Kept lit s₀ (s.withPanel p) := h.congr
theorem withPending (h : Kept lit s₀ s) (q : List Instr) : Kept lit s₀ (s.withPending q) := h.congr
theorem meterIdle (h : Kept lit s₀ s) : Kept lit s₀ s.meterIdle := h.withMetering _
theorem writeRecord (h : Kept lit s₀ s) (r : MeterRecord) : Kept lit s₀ (s.writeRecord r) := h.withMetering _

/-- The switch and the rates of the Account Table. -/
theorem withAccounts (h : Kept lit s₀ s) {a : AccountTable} (hslots : a.slots = s.accounts.slots) :
    Kept lit s₀ (s.withAccounts a) := h.congr (hslots := hslots)

theorem withFilms (h : Kept lit s₀ s) {f : List (Option FilmKind)} (hlength : f.length = s.films.length) :
    Kept lit s₀ (s.withFilms f) := h.congr (hfilms := hlength)

/-! ## Notices -/

theorem withNotices (h : Kept lit s₀ s) {n : NoticeUnit}
    (hn : s.noticeSetsClear → (s.withNotices n).noticeSetsClear) : Kept lit s₀ (s.withNotices n) where
  notices hs := hn (h.notices hs)
  mark hm := State.marks_congr (h.mark hm)
  balance hb := (h.balance hb).congr
  light hl hs := (h.light hl hs).congr
  tables ht := (h.tables ht).congr
  store hs := (h.store hs).congr

theorem raise (h : Kept lit s₀ s) (n : Notice) : Kept lit s₀ (s.raise n) :=
  h.withNotices fun hs => State.noticeSetsClear_raise hs n

theorem noteLow (h : Kept lit s₀ s) (before after : Bool) : Kept lit s₀ (s.noteLow before after) :=
  iteInduction (fun _ => h.raise _) fun _ => h

theorem noteAbandoned (h : Kept lit s₀ s) (byGate : Bool) : Kept lit s₀ (s.noteAbandoned byGate) :=
  iteInduction (fun _ => h.raise _) fun _ => h

/-! ## The Exposure Unit -/

theorem withExposure (h : Kept lit s₀ s) {e : ExposureUnit}
    (he : lit → s₀.lightSafe → s.LightFits → LitSafely s.orders.active s.courses e s.transport.state) :
    Kept lit s₀ (s.withExposure e) where
  notices hs := State.noticeSetsClear_congr (h.notices hs)
  mark hm := State.marks_congr (h.mark hm)
  balance hb := (h.balance hb).congr
  light hl hs := he hl hs (h.light hl hs)
  tables ht := (h.tables ht).congr
  store hs := (h.store hs).congr

/-- Counts, heat and the gate's switch: what drives the lamp and what it is lit for stay. -/
theorem withExposure_same (h : Kept lit s₀ s) {e : ExposureUnit} (hdrives : s.exposure.drives → e.drives)
    (hpurpose : e.purpose = s.exposure.purpose) (hreading : e.gate.reading = s.exposure.gate.reading) :
    Kept lit s₀ (s.withExposure e) :=
  h.withExposure fun _ _ hl => hl.withUnit (hdrives hl.drives) hreading fun _ hp => hl.admits (hpurpose ▸ hp)

theorem litFor (h : Kept lit s₀ s) (ms : Nat) : Kept lit s₀ (s.litFor ms) :=
  h.withExposure_same (fun hdrives => hdrives) rfl rfl

/-- A lighting ends: nothing is lit, for nothing. -/
theorem endLighting (h : Kept lit s₀ s) : Kept lit s₀ s.endLighting :=
  h.withExposure fun _ _ hl => hl.withUnit ⟨rfl, rfl, rfl, rfl, rfl⟩ rfl (fun _ hp => nomatch hp)

theorem lightLamp (h : Kept lit s₀ s) (step : Nat) {p : Purpose}
    (hadmitted : lit → s₀.lightSafe → s.LightFits →
      LitSafely.Admits s.courses s.exposure.gate.reading s.transport.state p) : Kept lit s₀ (s.lightLamp step p) :=
  h.withExposure fun hlit hs hl => hl.withUnit ⟨⟨step, rfl⟩, rfl, rfl, rfl⟩ rfl fun q hq => by
    obtain rfl := Option.some.inj hq
    exact hadmitted hlit hs hl

/-! ## The Transport Unit and the rolls -/

theorem withTransport (h : Kept lit s₀ s) {u : TransportUnit}
    (hu : lit → s₀.lightSafe → s.LightFits → u.state = s.transport.state ∨ u.state = .ready ∨
      ∀ p, s.exposure.purpose = some p → p.forOrder = false) : Kept lit s₀ (s.withTransport u) where
  notices hs := State.noticeSetsClear_congr (h.notices hs)
  mark hm := State.marks_congr (h.mark hm)
  balance hb := (h.balance hb).congr
  light hl hs := by
    have hfits := h.light hl hs
    obtain hsame | hready := hu hl hs hfits
    · exact hfits.congr (htransport := hsame)
    · exact LitSafely.withTransport hfits hready
  tables ht := (h.tables ht).congr
  store hs := (h.store hs).congr

/-- The transport leaves a state other than READY: no lighting for an order is under way then. -/
theorem withTransport_of_not_ready (h : Kept lit s₀ s) {u : TransportUnit} (hready : s.transport.state ≠ .ready) :
    Kept lit s₀ (s.withTransport u) :=
  h.withTransport fun _ _ hl => .inr (.inr fun p hp => by
    cases hfor : p.forOrder with
    | false => rfl
    | true => exact absurd (hl.ready p hp hfor) hready)

theorem withRolls (h : Kept lit s₀ s) {r : List Roll}
    (hr : s.rolls.length ≤ Config.maxRolls → r.length ≤ Config.maxRolls) : Kept lit s₀ (s.withRolls r) where
  notices hs := State.noticeSetsClear_congr (h.notices hs)
  mark hm := State.marks_congr (h.mark hm)
  balance hb := (h.balance hb).congr
  light hl hs := (h.light hl hs).congr
  tables ht := let t := h.tables ht; ⟨t.orders, hr t.rolls, t.labels, t.atReset⟩
  store hs := (h.store hs).congr

theorem mapRoll (h : Kept lit s₀ s) (n : Nat) (f : Roll → Roll) : Kept lit s₀ (s.mapRoll n f) :=
  h.withRolls fun hr => by simpa using hr

theorem mapRollInCamera (h : Kept lit s₀ s) (f : Roll → Roll) : Kept lit s₀ (s.mapRollInCamera f) := by
  unfold State.mapRollInCamera
  split
  · exact h.mapRoll _ f
  · exact h

theorem recordFrame (h : Kept lit s₀ s) (o : Order) (st : FrameState) (charge : Nat) :
    Kept lit s₀ (s.recordFrame o st charge) := h.mapRollInCamera _

/-- An advance asked for with nothing lit for an order (R90, R91). -/
theorem requestAdvance (h : Kept lit s₀ s) (id : Nat) (hdark : s.exposure.purpose = none) :
    Kept lit s₀ (s.requestAdvance id) := by
  have hmoved : ∀ u : TransportUnit, Kept lit s₀ (s.withTransport u) := fun u =>
    h.withTransport fun _ _ _ => .inr (.inr fun p hp => nomatch hdark.symm.trans hp)
  exact iteInduction (fun _ => (hmoved _).raise _) fun _ => hmoved _

/-! ## Order records -/

/-- A change of order records that leaves what the mark and the balance read, with no more frames unmade. -/
theorem mapOrder (h : Kept lit s₀ s) (id : Nat) {f : Order → Order} (g : Course → Course)
    (hholds : ∀ o, (f o).id = o.id ∧ (f o).account = o.account ∧ (f o).holds = o.holds)
    (hf : ∀ o, (f o).course = g o.course)
    (hg : ∀ c, (g c).id = c.id ∧ (g c).state = c.state ∧ (g c).unmade ≤ c.unmade) :
    Kept lit s₀ (s.mapOrder id f) := by
  have hcourses := s.mapOrder_courses id f g fun o _ => hf o
  have hsame : ∀ c : Course, (if c.id = id then g c else c).id = c.id ∧ (if c.id = id then g c else c).state = c.state ∧
      (if c.id = id then g c else c).unmade ≤ c.unmade := fun c => by split <;> simp [hg]
  exact {
    notices := fun hs => State.noticeSetsClear_congr (h.notices hs)
    mark := fun hm => (h.mark hm).of_map hcourses fun c _ => ⟨(hsame c).1, by rw [(hsame c).2.1]⟩
    balance := fun hb => (h.balance hb).mapOrder id hholds
    light := fun hl hs => (h.light hl hs).amend hcourses hsame
    tables := fun ht => (h.tables ht).congr (horders := by simp [State.mapOrder])
    store := fun hs => (h.store hs).congr }

/-- A change of order records that no promise reads. -/
theorem mapOrder_same (h : Kept lit s₀ s) (id : Nat) {f : Order → Order}
    (hf : ∀ o, (f o).course = o.course ∧ (f o).account = o.account ∧ (f o).holds = o.holds) :
    Kept lit s₀ (s.mapOrder id f) :=
  h.mapOrder id (fun c => c) (fun o => ⟨congrArg Course.id (hf o).1, (hf o).2⟩) (fun o => (hf o).1)
    fun _ => ⟨rfl, rfl, le_rfl⟩

theorem oweFewerLabels (h : Kept lit s₀ s) (id n : Nat) : Kept lit s₀ (s.oweFewerLabels id n) :=
  h.mapOrder_same id fun _ => ⟨rfl, rfl, rfl⟩

theorem progress (h : Kept lit s₀ s) (id roll frame : Nat) (spoiled : Bool) :
    Kept lit s₀ (s.mapOrder id fun o => o.progress roll frame spoiled) := by
  refine h.mapOrder id (fun c => { c with unmade := c.unmade - 1 }) (fun _ => ⟨rfl, rfl, rfl⟩) (fun o => ?_)
    fun c => ⟨rfl, rfl, Nat.sub_le _ _⟩
  have hunmade : (o.progress roll frame spoiled).unmade = o.unmade - 1 := by
    cases spoiled <;> simp [Order.unmade, Order.planned, Order.progress] <;> omega
  simp only [Order.course, hunmade]
  rfl

/-- A posting or a release (R146). -/
theorem moveHold (h : Kept lit s₀ s) (id : Nat) (part : HoldPart) (amount : Nat) (posted : Bool) :
    Kept lit s₀ (s.moveHold id part amount posted) where
  notices hs := State.noticeSetsClear_moveHold (h.notices hs) id part amount posted
  mark hm := by simpa using h.mark hm
  balance hb := (h.balance hb).moveHold id part amount posted
  light hl hs := by simpa [State.LightFits] using h.light hl hs
  tables ht := (h.tables ht).congr (horders := by simp only [← State.length_courses, State.moveHold_courses])
  store hs := (h.store hs).moveHold id part amount posted

theorem release (h : Kept lit s₀ s) (id : Nat) (part : HoldPart) (amount : Nat) :
    Kept lit s₀ (s.release id part amount) := h.moveHold id part amount false

theorem post (h : Kept lit s₀ s) (id : Nat) (part : HoldPart) (amount : Nat) :
    Kept lit s₀ (s.post id part amount) := h.moveHold id part amount true

/-- An order finishes that no lighting is for (R24). -/
theorem finishOrder (h : Kept lit s₀ s) {id : Nat} {final : OrderState} (hfinal : final.isActive = false)
    (hdark : lit → s₀.lightSafe → s.LightFits →
      ∀ p, s.exposure.purpose = some p → p.forOrder = true → s.orders.active ≠ some id) :
    Kept lit s₀ (s.finishOrder id final) := by
  have hactive : MarksActive s.orders.active s.courses →
      (s.finishOrder id final).orders.active = if s.orders.active = some id then none else s.orders.active := fun hm => by
    rw [s.finishOrder_active]
    by_cases hid : s.orders.active = some id
    · obtain ⟨c, hc, rfl⟩ := hm.present id hid
      have hfound : (s.findOrder c.id).isSome = true :=
        Option.isSome_iff_ne_none.mpr fun hnone => State.courses_ne_of_findOrder_eq_none hnone c hc rfl
      simp [hid, hfound]
    · simp [hid]
  exact {
    notices := fun hs => State.noticeSetsClear_finishOrder (h.notices hs) id final
    mark := fun hm => by
      rw [hactive (h.mark hm), State.finishOrder_courses]
      exact (h.mark hm).finish hfinal
    balance := fun hb => (h.balance hb).finishOrder id final
    light := fun hl hs => by
      have hfits := h.light hl hs
      unfold State.LightFits
      rw [hactive hfits.marks, State.finishOrder_courses, State.finishOrder_exposure, State.finishOrder_transport]
      exact LitSafely.finish hfits hfinal (hdark hl hs hfits)
    tables := fun ht => (h.tables ht).congr
      (horders := by rw [← State.length_courses, State.finishOrder_courses, List.length_map, State.length_courses])
    store := fun hs => (h.store hs).finishOrder id final }

/-- An active order that no lighting is for goes to another active state; none enters EXPOSING with the gate EMPTY. -/
theorem restate (h : Kept lit s₀ s) {id : Nat} {f : Order → Order} (st : OrderState) (hst : st.isActive = true)
    (hf : ∀ o, (f o).id = o.id ∧ (f o).account = o.account ∧ (f o).holds = o.holds ∧ (f o).state = st ∧
      (f o).unmade = o.unmade)
    (hactive : MarksActive s.orders.active s.courses → s.orders.active = some id)
    (hdark : lit → s₀.lightSafe → s.LightFits → ∀ p, s.exposure.purpose = some p → p.forOrder = false)
    (hslide : lit → s₀.lightSafe → s.LightFits → st = .exposing → s.exposure.gate.reading = true) :
    Kept lit s₀ (s.mapOrder id f) := by
  have hcourses : (s.mapOrder id f).courses = s.courses.map (Course.restate id st) :=
    s.mapOrder_courses id f (fun c => { c with state := st }) fun o _ => by
      obtain ⟨hid, -, -, hstate, hunmade⟩ := hf o
      simp only [Order.course, hid, hstate, hunmade]
  have hmarks : MarksActive s.orders.active s.courses →
      MarksActive s.orders.active (s.courses.map (Course.restate id st)) := fun hm =>
    hm.of_map rfl fun c hc => ⟨Course.restate_id _ _ c, by
      unfold Course.restate
      split_ifs with hid
      · exact hst.trans ((hm.marked c hc).mpr (hid ▸ hactive hm)).symm
      · rfl⟩
  exact {
    notices := fun hs => State.noticeSetsClear_congr (h.notices hs)
    mark := fun hm => hcourses ▸ hmarks (h.mark hm)
    balance := fun hb => (h.balance hb).mapOrder id fun o => ⟨(hf o).1, (hf o).2.1, (hf o).2.2.1⟩
    light := fun hl hs => by
      have hfits := h.light hl hs
      unfold State.LightFits
      rw [hcourses]
      refine hfits.withCourses (hmarks hfits.marks) (hdark hl hs hfits) fun c hc hstate hunmade => ?_
      obtain ⟨d, hd, rfl⟩ := List.mem_map.mp hc
      unfold Course.restate at hstate hunmade
      split_ifs at hstate hunmade
      · exact hslide hl hs hfits hstate
      · exact hfits.slide d hd hstate hunmade
    tables := fun ht => (h.tables ht).congr (horders := by simp [State.mapOrder])
    store := fun hs => (h.store hs).congr }

end Kept

end Sys2Proof.Machine
end

section
/-! PROOFS. The six promises kept by the operations the blocks share: the ends of lightings, the course of the active
order, labels and charges. -/

namespace Sys2Proof.Machine

variable {lit : Prop} {s₀ s : State}

/-- A lighting for an order needs the order's lighting to be one: after it is dropped, none is under way. -/
theorem State.dropOrderLighting_dark (s : State) (advance : Bool) {p : Purpose}
    (hp : (s.dropOrderLighting advance).exposure.purpose = some p) : p.forOrder = false := by
  have haborted : (s.abortExposure advance).exposure.purpose = none := by simp [abortExposure, endLighting]
  have habandoned : s.abandonPass.exposure.purpose = none := rfl
  unfold dropOrderLighting at hp
  split at hp
  · rw [haborted] at hp; cases hp
  · rw [habandoned] at hp; cases hp
  next h => rw [h] at hp; cases hp; rfl
  next h => rw [h] at hp; cases hp; rfl
  next h => rw [h] at hp; cases hp

/-- With no order lit for, nothing is lit for the order of any id. -/
theorem State.ne_of_dark {q : Option Nat} {id : Nat} (h : ∀ p, s.exposure.purpose = some p → p.forOrder = false) :
    ∀ p, s.exposure.purpose = some p → p.forOrder = true → q ≠ some id := fun p hp hfor => by
  rw [h p hp] at hfor
  cases hfor

/-- What a taken Start has found (R6 to R8): an order of the table that is PAUSED and active, or none active, the transport
READY and the gate OCCUPIED. -/
structure State.StartTaken (s : State) (id : Nat) : Prop where
  known  : ∃ o ∈ s.orders.table, o.id = id
  active : (∃ o r, s.activeOrder = some o ∧ o.id = id ∧ o.state = .paused r) ∨ s.activeOrder = none
  ready  : s.transport.state = .ready
  gate   : s.exposure.gate.reading = true

theorem State.startConditions_eq_none {s : State} (h : s.startConditions = .none) : s.exposure.gate.reading = true := by
  unfold startConditions at h
  split_ifs at h with hgate
  simpa using hgate

theorem State.startTaken_of_decision {s : State} {id : Nat} (h : s.startDecision = (id, .none)) : s.StartTaken id := by
  unfold startDecision at h
  split_ifs at h with hmeasuring hready
  · simp at h
  · split at h
    · split at h <;> simp at h
    · simp at h
  have hready := not_not.mp hready
  split at h
  next o hactive =>
    split at h
    next r hpaused =>
      simp only [Prod.mk.injEq] at h
      obtain ⟨rfl, h⟩ := h
      split_ifs at h
      exact ⟨⟨o, (activeOrder_eq_some hactive).1, rfl⟩, .inl ⟨o, r, hactive, rfl, hpaused⟩, hready,
        startConditions_eq_none h⟩
    · simp at h
  next hactive =>
    split at h
    · simp at h
    next o ho =>
      simp only [Prod.mk.injEq] at h
      obtain ⟨rfl, h⟩ := h
      exact ⟨⟨o, List.mem_of_find?_eq_some ho, rfl⟩, .inr hactive, hready, startConditions_eq_none h⟩

/-- With no order found active the mark names none (R3). -/
theorem State.active_eq_none {s : State} (h : s.activeOrder = none) (hm : MarksActive s.orders.active s.courses) :
    s.orders.active = none := by
  cases hactive : s.orders.active with
  | none => rfl
  | some id =>
    obtain ⟨c, hc, rfl⟩ := hm.present id hactive
    rw [activeOrder, hactive] at h
    exact absurd rfl (courses_ne_of_findOrder_eq_none h c hc)

namespace State.StartTaken

variable {s : State} {id : Nat}

theorem free (h : s.StartTaken id) (hm : MarksActive s.orders.active s.courses) :
    s.orders.active = some id ∨ s.orders.active = none := by
  obtain ⟨o, -, hactive, rfl, -⟩ | hnone := h.active
  · exact .inl (activeOrder_eq_some hactive).2.1
  · exact .inr (active_eq_none hnone hm)

/-- Then no order is in METERING or EXPOSING. -/
theorem not_working (h : s.StartTaken id) (hm : MarksActive s.orders.active s.courses) {c : Course} (hc : c ∈ s.courses)
    (hstate : c.state.isActive = true) : ∃ r, c.state = .paused r := by
  obtain ⟨o, r, hactive, -, hpaused⟩ | hnone := h.active
  · have hcourse : o.course ∈ s.courses := mem_courses.mpr ⟨o, (activeOrder_eq_some hactive).1, rfl⟩
    have hopaused : o.course.state = .paused r := hpaused
    exact ⟨r, hm.eq_of_isActive hc hcourse hstate (by rw [hopaused]; rfl) ▸ hopaused⟩
  · have hmarked := (hm.marked c hc).mp hstate
    rw [active_eq_none hnone hm] at hmarked
    cases hmarked

theorem dark (h : s.StartTaken id) (hfits : s.LightFits) :
    ∀ p, s.exposure.purpose = some p → p.forOrder = false := by
  have hnone : ∀ st : OrderState, st.isActive = true → (∀ r, st ≠ .paused r) → ¬ ∃ c ∈ s.courses, c.state = st := by
    rintro _ hactive hpaused ⟨c, hc, rfl⟩
    obtain ⟨r, hr⟩ := h.not_working hfits.marks hc hactive
    exact hpaused r hr
  intro p hp
  cases p with
  | testPass | calibration => rfl
  | orderPass => exact absurd (hfits.pass hp) (hnone _ rfl fun _ h => nomatch h)
  | exposure k t => exact absurd (hfits.frame k t hp) (hnone _ rfl fun _ h => nomatch h)

end State.StartTaken

namespace Kept

/-! ## Lightings that end -/

theorem abandonPass (h : Kept lit s₀ s) : Kept lit s₀ s.abandonPass := h.endLighting.meterIdle

theorem abandonTest (h : Kept lit s₀ s) (byGate : Bool) : Kept lit s₀ (s.abandonTest byGate) := by
  unfold State.abandonTest
  dsimp only
  split
  · exact h.endLighting.meterIdle
  · exact (h.endLighting.writeRecord _).meterIdle.noteAbandoned byGate

theorem abandonCalibration (h : Kept lit s₀ s) (byGate : Bool) : Kept lit s₀ (s.abandonCalibration byGate) := by
  unfold State.abandonCalibration
  dsimp only
  split
  · exact h.endLighting.meterIdle
  · exact (h.endLighting.writeRecord _).meterIdle.noteAbandoned byGate

/-- A frame is spoiled with nothing lit (R14). -/
theorem spoilFrame (h : Kept lit s₀ s) (advance : Bool) (hdark : s.exposure.purpose = none) :
    Kept lit s₀ (s.spoilFrame advance) := by
  unfold State.spoilFrame
  split
  · exact h
  next o _ =>
    have hframes := (h.recordFrame o .spoiled 0).release o.id .frame o.frameRate
    have hlabels := (hframes.release o.id .label o.labelRate).oweFewerLabels o.id 1
    dsimp only
    cases o.labels
    · have hmoved := hframes.progress o.id (s.transport.roll.getD 0) s.transport.currentFrame true
      exact iteInduction (fun _ => hmoved.requestAdvance _ (by simpa using hdark)) fun _ => hmoved
    · have hmoved := hlabels.progress o.id (s.transport.roll.getD 0) s.transport.currentFrame true
      exact iteInduction (fun _ => hmoved.requestAdvance _ (by simpa using hdark)) fun _ => hmoved

theorem abortExposure (h : Kept lit s₀ s) (advance : Bool) : Kept lit s₀ (s.abortExposure advance) :=
  h.endLighting.meterIdle.spoilFrame advance rfl

theorem dropOrderLighting (h : Kept lit s₀ s) (advance : Bool) : Kept lit s₀ (s.dropOrderLighting advance) := by
  unfold State.dropOrderLighting
  split
  · exact h.abortExposure advance
  · exact h.abandonPass
  all_goals exact h

/-- The active order's lighting ends, and an order finishes. -/
theorem dropAndFinish (h : Kept lit s₀ s) (advance : Bool) {id : Nat} {final : OrderState}
    (hfinal : final.isActive = false) : Kept lit s₀ ((s.dropOrderLighting advance).finishOrder id final) :=
  (h.dropOrderLighting advance).finishOrder hfinal fun _ _ _ =>
    State.ne_of_dark fun _ => s.dropOrderLighting_dark advance

theorem cutShort (h : Kept lit s₀ s) (reason : FinishReason) (spared advance : Bool) :
    Kept lit s₀ (s.cutShort reason spared advance) := by
  unfold State.cutShort
  split
  · exact h
  · exact iteInduction (fun _ => h) fun _ => h.dropAndFinish advance rfl

theorem takeStop (h : Kept lit s₀ s) : Kept lit s₀ s.takeStop := h.cutShort .stopped true true

/-! ## The course of the active order -/

/-- An order in EXPOSING or METERING that is found is the active one. -/
theorem active_of_findOrder {id : Nat} {o : Order} (hfound : s.findOrder id = some o)
    (hstate : o.state.isActive = true) (hm : MarksActive s.orders.active s.courses) : s.orders.active = some id := by
  obtain ⟨hmem, rfl⟩ := State.findOrder_some hfound
  exact (hm.marked o.course (State.mem_courses.mpr ⟨o, hmem, rfl⟩)).mp hstate

/-- The active order is PAUSED with nothing lit for an order (R18). -/
theorem pauseOrder (h : Kept lit s₀ s) {id : Nat} (reason : PauseReason)
    (hactive : MarksActive s.orders.active s.courses → s.orders.active = some id)
    (hdark : lit → s₀.lightSafe → s.LightFits → ∀ p, s.exposure.purpose = some p → p.forOrder = false) :
    Kept lit s₀ (s.pauseOrder id reason) :=
  (h.restate (f := fun o => { o with state := .paused reason }) (.paused reason) rfl (fun _ => ⟨rfl, rfl, rfl, rfl, rfl⟩) hactive hdark
    fun _ _ _ hexposing => nomatch hexposing).raise _

/-- The next frame of an order in EXPOSING begins with the gate OCCUPIED and the transport READY (R12). -/
theorem beginFrame (h : Kept lit s₀ s) {id : Nat} (hexposing : ∀ o, s.findOrder id = some o → o.state = .exposing)
    (hgate : lit → s₀.lightSafe → s.LightFits → ∀ o, s.findOrder id = some o → s.exposure.gate.reading = true)
    (hready : lit → s₀.lightSafe → s.LightFits → s.transport.state = .ready)
    (hdark : lit → s₀.lightSafe → s.LightFits → ∀ p, s.exposure.purpose = some p → p.forOrder = false) :
    Kept lit s₀ (s.beginFrame id) := by
  unfold State.beginFrame
  split
  · exact h
  next o hfound =>
    have hcourse : o.course ∈ s.courses := State.mem_courses.mpr ⟨o, (State.findOrder_some hfound).1, rfl⟩
    refine iteInduction (fun _ => h.lightLamp _ fun hl hs hfits => ?_) fun _ =>
      h.finishOrder rfl fun hl hs hfits => State.ne_of_dark (hdark hl hs hfits)
    exact {
      gate := by simp [hgate hl hs hfits o hfound]
      ready := fun _ => hready hl hs hfits
      pass := fun hpass => nomatch hpass
      frame := fun _ _ _ => ⟨_, hcourse, hexposing o hfound⟩ }

/-- An advance's outcome: where it moved the film the transport is READY (R15, R16). -/
theorem advanceOutcome (h : Kept lit s₀ s) (id : Nat) (moved : Bool)
    (hready : moved = true → s.transport.state = .ready)
    (hdark : lit → s₀.lightSafe → s.LightFits → ∀ p, s.exposure.purpose = some p → p.forOrder = false) :
    Kept lit s₀ (s.advanceOutcome id moved) := by
  unfold State.advanceOutcome
  split
  · exact h
  next o hfound =>
    have hnone : lit → s₀.lightSafe → s.LightFits → ∀ p, s.exposure.purpose = some p → p.forOrder = true →
        s.orders.active ≠ some id := fun hl hs hfits => State.ne_of_dark (hdark hl hs hfits)
    split_ifs with hstate hunmade hcancel hmoved
    · exact h
    · exact h.finishOrder rfl hnone
    · exact h.finishOrder rfl hnone
    · have hcourse : o.course ∈ s.courses := State.mem_courses.mpr ⟨o, (State.findOrder_some hfound).1, rfl⟩
      refine h.beginFrame (fun p hp => ?_) (fun _ _ hfits _ _ => hfits.slide _ hcourse (not_not.mp hstate) hunmade)
        (fun _ _ _ => hready hmoved) hdark
      obtain rfl := Option.some.inj (hfound.symm.trans hp)
      exact not_not.mp hstate
    · exact h.pauseOrder .roll (active_of_findOrder hfound (by rw [not_not.mp hstate]; rfl)) hdark

/-- An exposure completes with nothing lit (R13). -/
theorem completeExposure (h : Kept lit s₀ s) (hdark : s.exposure.purpose = none) : Kept lit s₀ s.completeExposure := by
  unfold State.completeExposure
  split
  · exact h
  next o _ =>
    have hcharged := (h.recordFrame o .exposed o.frameRate).post o.id .frame o.frameRate
    have hfinal : ∀ u : State, u.exposure.purpose = none → Kept lit s₀ u →
        Kept lit s₀ (if u.atLastFrame then (u.requestAdvance o.id).advanceOutcome o.id false
          else u.requestAdvance o.id) := fun u hu hk =>
      iteInduction (fun _ => (hk.requestAdvance o.id hu).advanceOutcome o.id false (fun hmoved => nomatch hmoved)
        fun _ _ _ p hp => by simp [hu] at hp) fun _ => hk.requestAdvance o.id hu
    dsimp only
    split
    · exact hfinal _ (by simpa using hdark) ((hcharged.post _ _ _).progress _ _ _ _)
    · exact hfinal _ (by simpa using hdark) (hcharged.progress _ _ _ _)

/-- The active order is planned with nothing lit and the gate OCCUPIED (R11). -/
theorem planOrder (h : Kept lit s₀ s) {o : Order} (a : Averages) (hactive : s.orders.active = some o.id)
    (hdark : s.exposure.purpose = none)
    (hslide : lit → s₀.lightSafe → s.LightFits → s.exposure.gate.reading = true) : Kept lit s₀ (s.planOrder o a) := by
  unfold State.planOrder
  split
  · exact h
  · exact h.restate .exposing rfl (fun _ => ⟨rfl, rfl, rfl, rfl, rfl⟩) (fun _ => hactive)
      (fun _ _ _ p hp => nomatch hdark.symm.trans hp) fun hl hs hfits _ => hslide hl hs hfits

/-! ## Start -/

/-- The order a Start takes is marked and in METERING (R10). -/
theorem markStarted (h : Kept lit s₀ s) {id : Nat} (hstart : s.StartTaken id) :
    Kept lit s₀ ((s.withOrders { s.orders with active := some id }).mapOrder id fun o => { o with state := .metering }) := by
  have hcourses : ((s.withOrders { s.orders with active := some id }).mapOrder id
      fun o => { o with state := .metering }).courses = s.courses.map (Course.restate id .metering) :=
    State.mapOrder_courses _ id _ (fun c => { c with state := .metering }) fun _ _ => rfl
  obtain ⟨o, ho, hid⟩ := hstart.known
  have hpresent : ∃ c ∈ s.courses, c.id = id := ⟨o.course, State.mem_courses.mpr ⟨o, ho, rfl⟩, hid⟩
  exact {
    notices := fun hs => State.noticeSetsClear_congr (h.notices hs)
    mark := fun hm => hcourses ▸ (h.mark hm).begin (hstart.free (h.mark hm)) hpresent
    balance := fun hb => ((h.balance hb).unmark (some id)).mapOrder id fun _ => ⟨rfl, rfl, rfl⟩
    light := fun hl hs => by
      have hfits := h.light hl hs
      unfold State.LightFits
      rw [hcourses]
      refine LitSafely.withCourses hfits (hfits.marks.begin (hstart.free hfits.marks) hpresent) (hstart.dark hfits)
        fun c _ hstate hunmade => hstart.gate
    tables := fun ht => (h.tables ht).congr (horders := by simp [State.mapOrder])
    store := fun hs => (h.store hs).congr }

theorem beginOrder (h : Kept lit s₀ s) {id : Nat} (hstart : s.StartTaken id) : Kept lit s₀ (s.beginOrder id) := by
  have hmarked := h.markStarted hstart
  obtain ⟨o, ho, hid⟩ := hstart.known
  unfold State.beginOrder
  dsimp only
  refine iteInduction (fun _ => hmarked.lightLamp 0 fun hl hs hfits => ?_) fun _ =>
    hmarked.finishOrder rfl fun hl hs _ => State.ne_of_dark (hstart.dark (h.light hl hs))
  exact {
    gate := by simpa using hstart.gate
    ready := fun _ => hstart.ready
    pass := fun _ => ⟨{ o with state := OrderState.metering }.course, State.mem_courses.mpr
      ⟨_, List.mem_map.mpr ⟨o, ho, if_pos hid⟩, rfl⟩, rfl⟩
    frame := fun _ _ hframe => nomatch hframe }

/-! ## Charges and labels owed -/

/-- A change of an account that keeps its number, its held money and its allowance, and spends no more. -/
theorem changeAccount (h : Kept lit s₀ s) (n : Nat) {f : Account → Account}
    (hf : ∀ a, (f a).number = a.number ∧ (f a).held = a.held ∧ (f a).allowance = a.allowance ∧ (f a).spent ≤ a.spent) :
    Kept lit s₀ (s.changeAccount n f) where
  notices hs := State.noticeSetsClear_changeAccount (h.notices hs) n f
  mark hm := State.marks_congr (h.mark hm)
  balance hb := (h.balance hb).changeAccount n hf
  light hl hs := (h.light hl hs).congr
  tables ht := (h.tables ht).congr
  store hs := (h.store hs).changeAccount n f

theorem refund (h : Kept lit s₀ s) (number charge : Nat) : Kept lit s₀ (s.refund number charge) :=
  h.changeAccount number fun _ => ⟨rfl, rfl, rfl, Nat.sub_le _ _⟩

theorem giveUpLabel (h : Kept lit s₀ s) (id : Nat) : Kept lit s₀ (s.giveUpLabel id) := by
  unfold State.giveUpLabel
  split
  · exact h
  · exact iteInduction (fun _ => (h.oweFewerLabels id 1).release id .label _) fun _ => h

theorem settleFogged (h : Kept lit s₀ s) (f : Frame) : Kept lit s₀ (s.settleFogged f) :=
  (h.refund f.account f.charge).giveUpLabel f.order

theorem foldl {α : Type} {op : State → α → State} (hop : ∀ u x, Kept lit s₀ u → Kept lit s₀ (op u x)) (xs : List α)
    (h : Kept lit s₀ s) : Kept lit s₀ (xs.foldl op s) := by
  induction xs generalizing s with
  | nil => exact h
  | cons x rest ih => exact ih (hop s x h)

theorem fogRoll (h : Kept lit s₀ s) : Kept lit s₀ s.fogRoll := by
  unfold State.fogRoll
  split
  · exact h
  · exact foldl (fun _ f hu => hu.settleFogged f) _ (h.mapRoll _ _)

theorem reportRejected (h : Kept lit s₀ s) (rejected : List (Nat × Frame)) : Kept lit s₀ (s.reportRejected rejected) :=
  foldl (fun _ e hu => hu.giveUpLabel e.2.order) rejected h

theorem resetSpent (h : Kept lit s₀ s) (numbers : List Nat) : Kept lit s₀ (s.resetSpent numbers) :=
  foldl (fun _ n hu => hu.changeAccount n (f := fun a => { a with spent := 0 }) fun _ => ⟨rfl, rfl, rfl, Nat.zero_le _⟩) numbers h

theorem chargeLabel (h : Kept lit s₀ s) (id : Nat) : Kept lit s₀ (s.chargeLabel id) := by
  unfold State.chargeLabel
  split
  · exact h
  · exact (h.oweFewerLabels id 1).post id .label _

/-! ## The Settings Store -/

theorem withStore (h : Kept lit s₀ s) {t : SettingsStore} (ht : s.StoreFormed → t.Formed) :
    Kept lit s₀ (s.withStore t) where
  notices hs := State.noticeSetsClear_congr (h.notices hs)
  mark hm := State.marks_congr (h.mark hm)
  balance hb := (h.balance hb).congr
  light hl hs := (h.light hl hs).congr
  tables ht := (h.tables ht).congr
  store hs := (h.store hs).withStore (ht (h.store hs))

theorem startWrite (h : Kept lit s₀ s) : Kept lit s₀ s.startWrite where
  notices hs := State.noticeSetsClear_congr (h.notices hs)
  mark hm := State.marks_congr (h.mark hm)
  balance hb := (h.balance hb).congr
  light hl hs := (h.light hl hs).congr
  tables ht := (h.tables ht).congr
  store hs := (h.store hs).startWrite

theorem markDirty (h : Kept lit s₀ s) (place : Nat) : Kept lit s₀ (s.markDirty place) :=
  (h.withStore fun hs => hs.store.setDirty place true).startWrite

/-! ## The Label Unit -/

theorem withLabels (h : Kept lit s₀ s) {l : LabelUnit}
    (hl : s.TablesFit → l.Orderly ∧ (s.labels.queue = [] → l.queue = [])) : Kept lit s₀ (s.withLabels l) where
  notices hs := State.noticeSetsClear_congr (h.notices hs)
  mark hm := State.marks_congr (h.mark hm)
  balance hb := (h.balance hb).congr
  light hl hs := (h.light hl hs).congr
  tables ht := by
    obtain ⟨horders, hrolls, hlabels, hreset⟩ := h.tables ht
    obtain ⟨horderly, hempty⟩ := hl ⟨horders, hrolls, hlabels, hreset⟩
    exact ⟨horders, hrolls, horderly, fun hheld => hempty (hreset hheld)⟩
  store hs := (h.store hs).congr

/-- A change of the Label Unit that leaves the queue and the printer state. -/
theorem withLabels_same (h : Kept lit s₀ s) {l : LabelUnit} (hqueue : l.queue = s.labels.queue)
    (hprinter : l.printer = s.labels.printer) : Kept lit s₀ (s.withLabels l) :=
  h.withLabels fun ht => ⟨ht.labels.congr hqueue hprinter, fun hempty => hqueue.trans hempty⟩

theorem printerFails (h : Kept lit s₀ s) {p : Printer} (hp : p = .stockOut ∨ ∃ cause, p = .faulted cause) :
    Kept lit s₀ (s.printerFails p) := by
  have hfailed : Kept lit s₀ ((s.withLabels (s.labels.enter p)).raise .printer) :=
    (h.withLabels fun ht => ⟨ht.labels.enter_fails hp, fun hempty => hempty⟩).raise _
  unfold State.printerFails
  split
  · exact h
  · exact h
  all_goals exact hfailed

/-- The Label Unit changes, and an IDLE printer begins the head of the queue (R122). -/
theorem print (h : Kept lit s₀ s) {l : LabelUnit}
    (hl : s.TablesFit → l.queue.length ≤ Config.maxLabels ∧ (l.printer = .idle ∨ l.Orderly) ∧
      (s.power.phase = .held → l.queue = [])) : Kept lit s₀ (s.withLabels l).beginPrinting where
  notices hs := State.noticeSetsClear_congr (h.notices hs)
  mark hm := State.marks_congr (h.mark hm)
  balance hb := (h.balance hb).congr
  light hl hs := (h.light hl hs).congr
  tables ht := by
    obtain ⟨hroom, hprinter, hreset⟩ := hl (h.tables ht)
    have hqueue : (s.withLabels l).beginPrinting.labels.queue = l.queue := by
      unfold State.beginPrinting
      split <;> simp
    exact ⟨by simpa using (h.tables ht).orders, by simpa using (h.tables ht).rolls,
      State.beginPrinting_orderly hroom hprinter, fun hheld => hqueue.trans (hreset (by simpa using hheld))⟩
  store hs := (h.store hs).congr

/-- The printer returns to IDLE, or to what its lines give, and begins the head of the queue (R122). -/
theorem enterAndPrint (h : Kept lit s₀ s) {p : Printer}
    (hp : p = .idle ∨ p = .stockOut ∨ ∃ cause, p = .faulted cause) :
    Kept lit s₀ (s.withLabels (s.labels.enter p)).beginPrinting :=
  h.print fun ht => ⟨ht.labels.queue, hp.imp (fun hidle => hidle) fun hfails => ht.labels.enter_fails hfails, ht.atReset⟩

theorem printerIdle (h : Kept lit s₀ s) : Kept lit s₀ s.printerIdle := h.enterAndPrint (.inl rfl)

theorem restartPrinter (h : Kept lit s₀ s) : Kept lit s₀ s.restartPrinter := by
  refine h.enterAndPrint ?_
  unfold LabelUnit.fromLines
  split_ifs <;> simp

end Kept

end Sys2Proof.Machine
end

section
/-! PROOFS. The six promises kept by the requests (R180, R184). -/

namespace Sys2Proof.Machine

variable {lit : Prop} {s₀ s : State}

/-! ## Where nothing is lit for an order -/

/-- With no order in METERING or EXPOSING nothing is lit for one. -/
theorem State.LightFits.dark (h : s.LightFits) (hnone : s.orderWorking = false) :
    ∀ p, s.exposure.purpose = some p → p.forOrder = false := by
  have hmark := s.markHolds_iff.mpr h.marks
  have hother : ∀ o, s.activeOrder = some o → o.state ≠ .metering ∧ o.state ≠ .exposing := fun o ho => by
    simpa [orderWorking, ho] using hnone
  intro p hp
  cases p with
  | testPass | calibration => rfl
  | orderPass =>
    obtain ⟨o, ho, hstate⟩ := (exists_activeOrder_iff hmark rfl).mpr (h.pass hp)
    exact absurd hstate (hother o ho).1
  | exposure k t =>
    obtain ⟨o, ho, hstate⟩ := (exists_activeOrder_iff hmark rfl).mpr (h.frame k t hp)
    exact absurd hstate (hother o ho).2

/-- With the transport in another state than READY nothing is lit for an order (R63). -/
theorem State.LightFits.dark_of_not_ready (h : s.LightFits) (hready : s.transport.state ≠ .ready) :
    ∀ p, s.exposure.purpose = some p → p.forOrder = false := fun p hp => by
  cases hfor : p.forOrder with
  | false => rfl
  | true => exact absurd (h.ready p hp hfor) hready

/-- In a state that no lighting for an order is in, an IDLE unit is lit for nothing. -/
theorem ExposureUnit.drives.purpose_of_idle {e : ExposureUnit} (h : e.drives) (hidle : e.state = .idle) :
    e.purpose = none := by
  unfold drives at h
  rw [hidle] at h
  exact h.2.2.2.2

/-- An order cut short has no lighting left for it. -/
theorem State.cutShort_dark (hfits : s.LightFits) (reason : FinishReason) (advance : Bool) :
    ∀ p, (s.cutShort reason false advance).exposure.purpose = some p → p.forOrder = false := by
  unfold cutShort
  split
  next hnone => exact hfits.dark (by simp [orderWorking, hnone])
  next o _ => simpa using fun p => s.dropOrderLighting_dark advance (p := p)

/-- A slot is found exactly where an account is. -/
theorem State.findAccount_eq_none_of_slotOf {n : Nat} (h : s.slotOf n = none) : s.findAccount n = none :=
  findAccount_eq_none_iff.mpr (List.findIdx?_eq_none_iff.mp h)

/-- What an admission has found (R5). -/
theorem State.admissionRefusal_eq_none {f : SubmitFields} (h : s.admissionRefusal f = none) :
    s.findOrder f.id = none ∧ s.orders.table.length < Config.maxOrders ∧ ∃ a, s.findAccount f.account = some a := by
  unfold admissionRefusal at h
  cases haccount : s.findAccount f.account with
  | none =>
    simp only [haccount] at h
    split_ifs at h
  | some a =>
    simp only [haccount] at h
    split_ifs at h with _ _ hknown hroom
    simp only [Bool.or_eq_true, not_or, Bool.not_eq_true, Option.isSome_eq_false_iff, Option.isNone_iff_eq_none] at hknown
    exact ⟨hknown.1, not_le.mp hroom, a, rfl⟩

/-- What every operation of a row leaves, the row leaves. -/
theorem foldl_eq {α β : Type} {read : State → β} {op : State → α → State} (hop : ∀ u x, read (op u x) = read u)
    (xs : List α) (s : State) : read (xs.foldl op s) = read s := by
  induction xs generalizing s with
  | nil => rfl
  | cons x rest ih => exact (ih (op s x)).trans (hop s x)

@[simp] theorem State.reportRejected_power (s : State) (rejected : List (Nat × Frame)) :
    (s.reportRejected rejected).power = s.power := foldl_eq (read := State.power) (fun u e => by simp) rejected s
@[simp] theorem State.reportRejected_labels (s : State) (rejected : List (Nat × Frame)) :
    (s.reportRejected rejected).labels = s.labels := foldl_eq (read := State.labels) (fun u e => by simp) rejected s

namespace Kept

/-- The answer of a request with a check (R184). -/
theorem ite {c : Prop} [Decidable c] {a b : Reply × State} (ha : c → Kept lit s₀ a.2) (hb : ¬ c → Kept lit s₀ b.2) :
    Kept lit s₀ (if c then a else b).2 := iteInduction (motive := fun r : Reply × State => Kept lit s₀ r.2) ha hb

/-! ## Orders admitted and retired -/

theorem lockMark (h : Kept lit s₀ s) : Kept lit s₀ s.lockMark := h.withLabels_same rfl rfl

/-- An order enters the table (R5). -/
theorem admitOrder (h : Kept lit s₀ s) {o : Order} {a : Account} (hnew : s.findOrder o.id = none)
    (hqueued : o.state = .queued) (hroom : s.orders.table.length < Config.maxOrders) (hphase : s.power.phase ≠ .held)
    (haccount : s.findAccount o.account = some a) (hcovered : o.holds ≤ a.available) :
    Kept lit s₀ (s.admitOrder o).2 := by
  have hfresh : ∀ d ∈ s.courses, d.id ≠ o.course.id := State.courses_ne_of_findOrder_eq_none hnew
  have hcourses : ((s.placeHold o.account o.holds).appendOrder o).courses = s.courses ++ [o.course] := by
    simp [State.courses, State.appendOrder, State.placeHold]
  have hadmitted : Kept lit s₀ ((s.placeHold o.account o.holds).appendOrder o) := {
    notices := fun hs => State.noticeSetsClear_changeAccount (h.notices hs) _ _
    mark := fun hm => by
      rw [hcourses]
      simpa [State.appendOrder, State.placeHold] using (h.mark hm).enroll hfresh hqueued
    balance := fun hb => (h.balance hb).enroll hnew hphase haccount hcovered
    light := fun hl hs => by
      unfold State.LightFits
      rw [hcourses]
      simpa [State.appendOrder, State.placeHold] using LitSafely.enroll (h.light hl hs) hfresh hqueued
    tables := fun ht => by
      obtain ⟨-, hrolls, hlabels, hreset⟩ := h.tables ht
      exact ⟨by simpa [State.appendOrder, State.placeHold] using hroom, by simpa [State.appendOrder, State.placeHold],
        by simpa [State.appendOrder, State.placeHold], by simpa [State.appendOrder, State.placeHold]⟩
    store := fun hs => ((h.store hs).changeAccount _ _).congr rfl rfl rfl }
  exact hadmitted.lockMark

/-- A finished order that holds nothing leaves the table (R26). -/
theorem retire (h : Kept lit s₀ s) {o : Order} (ho : o ∈ s.orders.table) (hfinished : o.state.isActive = false)
    (hnone : o.holds = 0) :
    Kept lit s₀ (s.withOrders { s.orders with table := s.orders.table.filter fun p => p.id ≠ o.id }) := by
  have hmem : o.course ∈ s.courses := List.mem_map_of_mem ho
  have hcourses : (s.withOrders { s.orders with table := s.orders.table.filter fun p => p.id ≠ o.id }).courses =
      s.courses.filter fun d => d.id ≠ o.course.id := by
    simp only [State.courses, State.withOrders_orders, List.filter_map]
    rfl
  exact {
    notices := fun hs => State.noticeSetsClear_congr (h.notices hs)
    mark := fun hm => by
      rw [hcourses]
      exact (h.mark hm).retire hmem hfinished
    balance := fun hb => (h.balance hb).retire ho hnone
    light := fun hl hs => by
      unfold State.LightFits
      rw [hcourses]
      exact LitSafely.retire (h.light hl hs) hmem hfinished
    tables := fun ht => by
      obtain ⟨horders, hrolls, hlabels, hreset⟩ := h.tables ht
      exact ⟨(List.length_filter_le _ _).trans horders, hrolls, hlabels, hreset⟩
    store := fun hs => (h.store hs).congr }

/-! ## Account slots -/

/-- A slot takes another record, or none (R154, R156). -/
theorem withSlot (h : Kept lit s₀ s) {i : Nat} {old : Option Account} (hat : s.accounts.slots[i]? = some old)
    (new : Option Account)
    (hnew : s.Balanced → ∀ b, new = some b → b.held = s.heldFor b.number ∧ b.spent + b.held ≤ b.allowance ∧
      (b.number ∈ s.accounts.accounts.map Account.number → ∃ a, old = some a ∧ a.number = b.number))
    (hold : s.Balanced → ∀ a, old = some a → (∃ b, new = some b ∧ b.number = a.number) ∨ s.heldFor a.number = 0) :
    Kept lit s₀ (s.withSlot i new) where
  notices hs := State.noticeSetsClear_congr (h.notices hs) rfl
  mark hm := State.marks_congr (h.mark hm) rfl
  balance hb := let b := h.balance hb; b.setSlot hat new (hnew b) (hold b)
  light hl hs := (h.light hl hs).congr rfl rfl rfl
  tables ht := (h.tables ht).congr rfl rfl rfl rfl
  store hs := (h.store hs).congr rfl rfl (by simp [State.withSlot])

theorem storeAccount {slot : Nat} {a : Account} {wasLow : Bool}
    (hslot : Kept lit s₀ (s.withSlot slot (some a))) : Kept lit s₀ (s.storeAccount slot a wasLow).2 :=
  (hslot.markDirty _).noteLow _ _

theorem serveSetAccount (h : Kept lit s₀ s) (body : List Byte) : Kept lit s₀ (serveSetAccount body s).2 := by
  unfold Machine.serveSetAccount
  dsimp only
  refine ite (fun _ => h) fun _ => ?_
  split
  next a slot hfound hslot =>
    refine ite (fun _ => h) fun hwithin => ?_
    refine storeAccount (h.withSlot (State.slots_of_slotOf hfound hslot) _ (fun hb b hnew => ?_) fun _ b hold => ?_)
    · cases hnew
      exact ⟨(hb.held a (State.mem_accounts_of_findAccount hfound)).1, by simpa using hwithin, fun _ => ⟨a, rfl, rfl⟩⟩
    · cases hold
      exact .inl ⟨_, rfl, rfl⟩
  next hother =>
    have hnone : s.findAccount (accountFields body).number = none := by
      cases hfound : s.findAccount (accountFields body).number with
      | none => rfl
      | some a =>
        cases hslot : s.slotOf (accountFields body).number with
        | none => exact hfound ▸ State.findAccount_eq_none_of_slotOf hslot
        | some slot => exact absurd hslot (hother a slot hfound)
    have hunnamed : (accountFields body).number ∉ s.accounts.accounts.map Account.number := fun hmem => by
      simpa [hnone] using State.findAccount_isSome_iff.mpr hmem
    split
    · exact h
    next slot hfree =>
      obtain ⟨hlt, hempty, -⟩ := List.findIdx?_eq_some_iff_getElem.mp hfree
      have hat : s.accounts.slots[slot]? = some none :=
        List.getElem?_eq_some_iff.mpr ⟨hlt, Option.isNone_iff_eq_none.mp hempty⟩
      refine storeAccount (h.withSlot hat _ (fun hb b hnew => ?_) fun _ b hold => nomatch hold)
      cases hnew
      have hzero : s.heldFor (accountFields body).number = 0 := State.heldFor_eq_zero fun o ho haccount => by
        by_contra hne
        exact hunnamed (haccount ▸ hb.named o ho hne)
      exact ⟨hzero.symm, Nat.zero_le _, fun hmem => absurd hmem hunnamed⟩

theorem serveCloseAccount (h : Kept lit s₀ s) (body : List Byte) : Kept lit s₀ (serveCloseAccount body s).2 := by
  unfold Machine.serveCloseAccount
  dsimp only
  refine ite (fun _ => h) fun _ => ?_
  split
  next a slot hfound hslot =>
    refine ite (fun _ => h) fun hheld => ?_
    refine (h.withSlot (State.slots_of_slotOf hfound hslot) none (fun _ _ hnew => nomatch hnew)
      fun hb b hold => ?_).markDirty _
    cases hold
    exact .inr ((hb.held a (State.mem_accounts_of_findAccount hfound)).1 ▸ not_not.mp hheld)
  · exact h

theorem serveResetPeriod (h : Kept lit s₀ s) (body : List Byte) : Kept lit s₀ (serveResetPeriod body s).2 := by
  unfold Machine.serveResetPeriod
  dsimp only
  split_ifs
  exacts [h, h, h.resetSpent _, h, h.resetSpent _]

theorem serveAccountReport (h : Kept lit s₀ s) (body : List Byte) : Kept lit s₀ (serveAccountReport body s).2 := by
  unfold Machine.serveAccountReport
  dsimp only
  split_ifs
  · exact h
  · exact h
  · split <;> exact h

theorem serveSetRates (h : Kept lit s₀ s) (body : List Byte) : Kept lit s₀ (serveSetRates body s).2 := by
  unfold Machine.serveSetRates
  split_ifs
  · exact h
  · exact (h.withAccounts (a := { s.accounts with rates := some (rateCardAt body 0) }) rfl).markDirty 5

/-! ## Notices, film kinds and the stand calibration -/

/-- Replaced notice sets whose two top bits are 0 (R191, R192). -/
theorem withSets (h : Kept lit s₀ s) {n : NoticeUnit} (hn : s.noticeSetsClear → n.pending.toNat < 16384 ∧
    n.enabled.toNat < 16384) : Kept lit s₀ (s.withNotices n) := h.withNotices hn

theorem serveSetNoticeEnable (h : Kept lit s₀ s) (body : List Byte) : Kept lit s₀ (serveSetNoticeEnable body s).2 := by
  unfold Machine.serveSetNoticeEnable
  dsimp only
  refine ite (fun _ => h) fun hknown => h.withSets fun hs => ⟨hs.1, ?_⟩
  have hnamed : (noticeSetAt body).toNat < 16384 := by simpa [namesUnknownNotice] using hknown
  rw [BitVec.toNat_or]
  exact Nat.or_lt_two_pow (n := 14) hs.2 hnamed

theorem serveClearNoticeEnable (h : Kept lit s₀ s) (body : List Byte) :
    Kept lit s₀ (serveClearNoticeEnable body s).2 := by
  unfold Machine.serveClearNoticeEnable
  dsimp only
  refine ite (fun _ => h) fun _ => h.withSets fun hs => ⟨hs.1, ?_⟩
  rw [BitVec.toNat_and]
  exact Nat.and_le_left.trans_lt hs.2

theorem serveClearNotices (h : Kept lit s₀ s) (body : List Byte) : Kept lit s₀ (serveClearNotices body s).2 := by
  unfold Machine.serveClearNotices
  dsimp only
  refine ite (fun _ => h) fun _ => h.withSets fun hs => ⟨?_, hs.2⟩
  rw [BitVec.toNat_and]
  exact Nat.and_le_left.trans_lt hs.1

theorem serveSetFilmKind (h : Kept lit s₀ s) (body : List Byte) : Kept lit s₀ (serveSetFilmKind body s).2 := by
  unfold Machine.serveSetFilmKind
  dsimp only
  exact ite (fun _ => h) fun _ => ite (fun _ => h) fun _ => (h.withFilms (List.length_set)).markDirty _

theorem serveReadFilmKind (h : Kept lit s₀ s) (body : List Byte) : Kept lit s₀ (serveReadFilmKind body s).2 :=
  ite (fun _ => h) fun _ => h

theorem serveSetStandCalibration (h : Kept lit s₀ s) (body : List Byte) :
    Kept lit s₀ (serveSetStandCalibration body s).2 := by
  unfold Machine.serveSetStandCalibration
  dsimp only
  exact ite (fun _ => h) fun _ => ite (fun _ => h) fun _ => ite (fun _ => h) fun _ => (h.withCalibration _).markDirty 0

/-! ## Lightings that requests begin -/

/-- A lighting that is for no order needs only the gate in its state (R37, R41). -/
theorem lightForNone (h : Kept lit s₀ s) (step : Nat) {p : Purpose} (hfor : p.forOrder = false)
    (hgate : s.exposure.gate.reading = true ↔ p ≠ .calibration) : Kept lit s₀ (s.lightLamp step p) :=
  h.lightLamp step fun _ _ _ =>
    { gate := hgate
      ready := fun htrue => by simp [hfor] at htrue
      pass := fun hpass => by simp [hpass, Purpose.forOrder] at hfor
      frame := fun _ _ hframe => by simp [hframe, Purpose.forOrder] at hfor }

theorem serveCalibrateLamp (h : Kept lit s₀ s) (body : List Byte) : Kept lit s₀ (serveCalibrateLamp body s).2 :=
  ite (fun _ => h) fun _ => ite (fun _ => h) fun _ => ite (fun _ => h) fun hgate =>
    (h.withMetering _).lightForNone 0 rfl (by simpa using hgate)

theorem serveMeterTest (h : Kept lit s₀ s) (body : List Byte) : Kept lit s₀ (serveMeterTest body s).2 := by
  unfold Machine.serveMeterTest
  dsimp only
  exact ite (fun _ => h) fun _ => ite (fun _ => h) fun _ => ite (fun _ => h) fun _ => ite (fun _ => h) fun _ =>
    ite (fun _ => h) fun _ => ite (fun _ => h) fun hgate => ite (fun _ => h) fun _ =>
      (h.withMetering _).lightForNone 0 rfl (by simpa using hgate)

/-! ## Orders -/

theorem serveSubmitOrder (h : Kept lit s₀ s) (body : List Byte) (hphase : s.power.phase ≠ .held) :
    Kept lit s₀ (serveSubmitOrder body s).2 := by
  unfold Machine.serveSubmitOrder
  dsimp only
  refine ite (fun _ => h) fun _ => ?_
  split
  · exact h
  · exact h
  next rates hadmitted _ =>
    refine ite (fun _ => h) fun hcovered => ?_
    obtain ⟨hnew, hroom, a, haccount⟩ := State.admissionRefusal_eq_none hadmitted
    refine h.admitOrder hnew rfl hroom hphase haccount ?_
    simpa [State.availableOf, SubmitFields.record, haccount] using hcovered

theorem markCancel (h : Kept lit s₀ s) {o : Order} (hfound : s.findOrder o.id = some o) (hexposing : o.state = .exposing)
    (hunmade : o.unmade ≠ 0) : Kept lit s₀ (s.markCancel o) := by
  have hmarked := h.mapOrder_same o.id (f := fun p => { p with cancelRequested := true }) fun _ => ⟨rfl, rfl, rfl⟩
  have hcourse : o.course ∈ s.courses := State.mem_courses.mpr ⟨o, (State.findOrder_some hfound).1, rfl⟩
  unfold State.markCancel
  dsimp only
  refine iteInduction (fun hwaits => ?_) fun _ => hmarked
  simp only [Bool.and_eq_true, decide_eq_true_eq] at hwaits
  obtain ⟨⟨-, hidle⟩, hready⟩ := hwaits
  have hunit := hmarked.withExposure_same (e := { s.exposure with frameWaits := false }) (fun hd => hd) rfl rfl
  refine hunit.beginFrame (fun p hp => ?_) (fun hl hs _ _ _ => ?_) (fun _ _ _ => hready) fun hl hs _ p hp => ?_
  · obtain rfl := Option.some.inj
      ((State.findOrder_mapOrder (f := fun p => { p with cancelRequested := true }) (fun _ => rfl) hfound).symm.trans hp)
    exact hexposing
  · exact (h.light hl hs).slide _ hcourse hexposing hunmade
  · cases hp.symm.trans ((h.light hl hs).drives.purpose_of_idle hidle)

theorem serveCancelOrder (h : Kept lit s₀ s) (body : List Byte) : Kept lit s₀ (serveCancelOrder body s).2 := by
  unfold Machine.serveCancelOrder
  split
  · exact h
  next o hfound =>
    obtain ⟨hmem, hid⟩ := State.findOrder_some hfound
    split
    · exact h
    · exact h
    · exact h
    next hqueued =>
      refine h.finishOrder rfl fun hl hs hfits _ _ _ hactive => ?_
      have hmarked := (hfits.marks.marked o.course (List.mem_map_of_mem hmem)).mpr hactive
      rw [show o.course.state = .queued from hqueued] at hmarked
      cases hmarked
    next reason hpaused =>
      have hactive : o.course.state.isActive = true := by rw [show o.course.state = .paused reason from hpaused]; rfl
      refine h.finishOrder rfl fun hl hs hfits => State.ne_of_dark fun p hp => hfits.dark ?_ p hp
      rw [State.orderWorking, State.activeOrder_of_isActive (s.markHolds_iff.mpr hfits.marks) hmem hactive]
      simp [hpaused]
    next => exact h.dropAndFinish true rfl
    next hexposing =>
      refine ite (fun _ => h) fun hunmade => h.markCancel (hid.symm ▸ hfound) hexposing hunmade

theorem serveOrderReport (h : Kept lit s₀ s) (body : List Byte) : Kept lit s₀ (serveOrderReport body s).2 := by
  unfold Machine.serveOrderReport
  dsimp only
  split <;> exact h

theorem serveRetireOrder (h : Kept lit s₀ s) (body : List Byte) : Kept lit s₀ (serveRetireOrder body s).2 := by
  unfold Machine.serveRetireOrder
  split
  · exact h
  next o hfound =>
    refine ite (fun hretirable => ?_) fun _ => h
    simp only [Order.retirable, Bool.and_eq_true, decide_eq_true_eq] at hretirable
    obtain ⟨⟨hfinished, -⟩, hnone⟩ := hretirable
    refine h.retire (State.findOrder_some hfound).1 ?_ hnone
    cases hstate : o.state <;> simp [hstate, OrderState.finished, OrderState.isActive] at hfinished ⊢

theorem serveStart (h : Kept lit s₀ s) (body : List Byte) : Kept lit s₀ (serveStart body s).2 := by
  unfold Machine.serveStart
  split
  next id hstart => exact h.beginOrder (State.startTaken_of_decision hstart)
  · exact h

theorem takeStartPress (h : Kept lit s₀ s) : Kept lit s₀ s.takeStartPress := by
  unfold State.takeStartPress
  split
  next id hstart => exact h.beginOrder (State.startTaken_of_decision hstart)
  next why _ _ => exact (h.withNotices (n := { s.notices with lastRefusal := why }) fun hs => hs).raise _

/-! ## Labels -/

theorem serveSetLibraryMark (h : Kept lit s₀ s) (body : List Byte) : Kept lit s₀ (serveSetLibraryMark body s).2 := by
  unfold Machine.serveSetLibraryMark
  dsimp only
  exact ite (fun _ => h) fun _ => ite (fun _ => h) fun _ => h.withLabels_same rfl rfl

theorem serveResumePrinter (h : Kept lit s₀ s) (body : List Byte) : Kept lit s₀ (serveResumePrinter body s).2 := by
  unfold Machine.serveResumePrinter
  split
  · exact h
  · exact h
  · exact h
  all_goals exact ite (fun _ => h.printerIdle) fun _ => h

/-- Entries behind those present, within the queue's limit, and an IDLE printer begins (R113, R122). -/
theorem queueLabels (h : Kept lit s₀ s) {entries : List LabelEntry} (hphase : s.power.phase ≠ .held)
    (hroom : s.labels.queue.length + entries.length ≤ Config.maxLabels) : Kept lit s₀ (s.queueLabels entries) := by
  refine h.print fun ht => ⟨by simpa using hroom, ?_, fun hheld => absurd hheld hphase⟩
  have hprinter := ht.labels.printer
  cases hp : s.labels.printer with
  | idle => exact .inl rfl
  | sending label index =>
    simp only [hp] at hprinter
    exact .inr ⟨by simpa using hroom, by simp [hp, hprinter]⟩
  | feeding label index =>
    simp only [hp] at hprinter
    exact .inr ⟨by simpa using hroom, by simp [hp, hprinter]⟩
  | stockOut => exact .inr ⟨by simpa using hroom, by simp [hp]⟩
  | faulted cause => exact .inr ⟨by simpa using hroom, by simp [hp]⟩

/-! ## Rolls and the transport -/

theorem serveDeclareRoll (h : Kept lit s₀ s) (body : List Byte) : Kept lit s₀ (serveDeclareRoll body s).2 := by
  unfold Machine.serveDeclareRoll
  dsimp only
  refine ite (fun _ => h) fun _ => ite (fun _ => h) fun hloaded => ite (fun _ => h) fun _ => ite (fun _ => h) fun hroom => ?_
  split
  · exact h
  · refine (h.withRolls (r := s.rolls ++ [newRoll _ _ _]) fun _ => ?_).withTransport_of_not_ready ?_
    · simpa using not_le.mp hroom
    · simp [not_not.mp hloaded]

theorem startRewind (h : Kept lit s₀ s) (hmay : s.mayRewind = true) : Kept lit s₀ s.startRewind := by
  simp only [State.mayRewind, Bool.and_eq_true, Bool.not_eq_true'] at hmay
  exact h.withTransport fun _ _ hfits => .inr (.inr (hfits.dark hmay.1))

theorem serveRewind (h : Kept lit s₀ s) (body : List Byte) : Kept lit s₀ (serveRewind body s).2 :=
  ite h.startRewind fun _ => h

theorem takeRewindPress (h : Kept lit s₀ s) : Kept lit s₀ s.takeRewindPress := iteInduction h.startRewind fun _ => h

theorem serveRollReport (h : Kept lit s₀ s) (body : List Byte) : Kept lit s₀ (serveRollReport body s).2 := by
  unfold Machine.serveRollReport
  dsimp only
  refine ite (fun _ => h) fun _ => ?_
  split <;> exact h

theorem serveKeepReport (h : Kept lit s₀ s) (body : List Byte) (hphase : s.power.phase ≠ .held) :
    Kept lit s₀ (serveKeepReport body s).2 := by
  unfold Machine.serveKeepReport
  dsimp only
  refine ite (fun _ => h) fun _ => ?_
  split
  · exact h
  next r _ =>
    refine ite (fun _ => h) fun _ => ite (fun _ => h) fun hroom => ?_
    refine ((h.mapRoll r.number _).reportRejected _).queueLabels ?_ ?_
    · simpa using hphase
    · simpa using hroom

theorem removeRoll (h : Kept lit s₀ s) (number : Nat) : Kept lit s₀ (s.removeRoll number) :=
  h.withRolls fun hr => (List.length_filter_le _ _).trans hr

theorem serveCloseRoll (h : Kept lit s₀ s) (body : List Byte) : Kept lit s₀ (serveCloseRoll body s).2 := by
  unfold Machine.serveCloseRoll
  split
  · exact h
  next r _ =>
    split
    · exact h
    · exact (h.reportRejected _).removeRoll _
    · exact ite (fun _ => h) fun _ => h.removeRoll _
    · exact h.removeRoll _

/-! ## Every request -/

/-- A request at its owner (R184). -/
theorem serveChecked (h : Kept lit s₀ s) (kind : Nat) (body : List Byte) (hphase : s.power.phase ≠ .held) :
    Kept lit s₀ (serveChecked kind body s).2 := by
  unfold Machine.serveChecked
  split
  exacts [h, h.serveSetNoticeEnable body, h.serveClearNoticeEnable body, h.serveClearNotices body, h, h.takeStop,
    h.serveSetLibraryMark body, h.serveSubmitOrder body hphase, h.serveCancelOrder body, h.serveOrderReport body,
    h.serveRetireOrder body, h.serveStart body, h.serveDeclareRoll body, h.serveRewind body, h.serveRollReport body,
    h.serveKeepReport body hphase, h.serveCloseRoll body, h.serveSetFilmKind body, h.serveReadFilmKind body,
    h.serveSetStandCalibration body, h, h.serveCalibrateLamp body, h.serveMeterTest body, h.withMetering _, h,
    h.serveResumePrinter body, h.serveSetAccount body, h.serveAccountReport body, h.serveCloseAccount body,
    h.serveResetPeriod body, h.serveSetRates body, h, h]

theorem serve (h : Kept lit s₀ s) (r : Request) (hphase : s.power.phase ≠ .held) : Kept lit s₀ (serve r s).2 :=
  ite (fun _ => h) fun _ => ite (fun _ => h) fun _ => h.serveChecked r.kind r.body hphase

end Kept

end Sys2Proof.Machine
end

section
/-! PROOFS. The six promises kept by the events of the film, the light, the printer and the line. -/

namespace Sys2Proof.Machine

variable {lit : Prop} {s₀ s : State}

@[simp] theorem State.fogRoll_exposure (s : State) : s.fogRoll.exposure = s.exposure := by
  unfold fogRoll
  split
  · rfl
  · exact foldl_eq (read := State.exposure) (fun u f => by simp [settleFogged]) _ _

/-- A reading met by the contacts leaves the transport's state or takes it to SEATING from EMPTY or MISSEATED. -/
theorem TransportUnit.meetReading_state (t : TransportUnit) :
    t.meetReading.state = t.state ∨ t.state = .empty ∨ t.state = .misseated := by
  unfold meetReading
  split <;> simp_all

theorem TransportUnit.changeContacts_state (t : TransportUnit) (contact1 contact2 : Bool) :
    (t.changeContacts contact1 contact2).state = t.state ∨ t.state = .empty ∨ t.state = .misseated := by
  unfold changeContacts
  dsimp only
  exact iteInduction (motive := fun u : TransportUnit => u.state = t.state ∨ _) (fun _ => .inl rfl) fun _ => meetReading_state _

@[simp] theorem State.spoilFrame_active (s : State) (advance : Bool) :
    (s.spoilFrame advance).orders.active = s.orders.active := by
  unfold spoilFrame
  split
  · rfl
  · dsimp only
    split_ifs <;> simp

@[simp] theorem State.abortExposure_active (s : State) (advance : Bool) :
    (s.abortExposure advance).orders.active = s.orders.active := by simp [abortExposure, endLighting]

namespace Kept

/-! ## Contacts, seating and removal -/

theorem withContacts (h : Kept lit s₀ s) {u : TransportUnit}
    (hu : u.state = s.transport.state ∨ s.transport.state = .empty ∨ s.transport.state = .misseated) :
    Kept lit s₀ (s.withTransport u) := by
  obtain hsame | hready | hready := hu
  · exact h.withTransport fun _ _ _ => .inl hsame
  · exact h.withTransport_of_not_ready (by simp [hready])
  · exact h.withTransport_of_not_ready (by simp [hready])

theorem clearMagazine (h : Kept lit s₀ s) (fogging : Bool)
    (hdark : lit → s₀.lightSafe → s.LightFits → ∀ p, s.exposure.purpose = some p → p.forOrder = false) :
    Kept lit s₀ (s.clearMagazine fogging) := by
  have hcleared := h.withTransport (u := s.transport.removed) fun hl hs hfits => .inr (.inr (hdark hl hs hfits))
  unfold State.clearMagazine
  dsimp only
  cases fogging
  · exact hcleared.raise _
  · exact (hcleared.raise _).raise _

theorem fogMagazine (h : Kept lit s₀ s) : Kept lit s₀ s.fogMagazine := by
  have hstopped := h.withTransport (u := { s.transport with motor := .off }) fun _ _ _ => .inl rfl
  refine ((hstopped.cutShort .magazineRemoved false false).fogRoll).clearMagazine true fun hl hs _ p hp => ?_
  exact State.cutShort_dark (hstopped.light hl hs) .magazineRemoved false p (by simpa using hp)

theorem removeMagazine (h : Kept lit s₀ s) : Kept lit s₀ s.removeMagazine := by
  have hclear : s.transport.state ≠ .ready → Kept lit s₀ (s.clearMagazine false) := fun hready =>
    h.clearMagazine false fun _ _ hfits => hfits.dark_of_not_ready hready
  unfold State.removeMagazine
  split
  · exact h
  · exact h
  · exact h
  next hstate => exact hclear (by simp [hstate])
  next hstate _ =>
    refine (h.mapRollInCamera _).clearMagazine false fun _ _ hfits => hfits.dark_of_not_ready ?_
    simp [hstate]
  next hstate _ => exact hclear (by simp [hstate])
  next hstate _ => exact hclear (by simp [hstate])
  next hstate _ => exact hclear (by simp [hstate])
  all_goals exact h.fogMagazine

/-- SEATING or MISSEATED returns to EMPTY (R80, R82). -/
theorem unseat (h : Kept lit s₀ s) (reported : Bool) (hready : s.transport.state ≠ .ready) :
    Kept lit s₀ (s.unseat reported) := by
  have hempty := h.withTransport_of_not_ready (u := { s.transport with state := .empty, fromMisseated := false }) hready
  exact iteInduction (fun _ => hempty.raise _) fun _ => hempty

/-! ## The motor -/

theorem reportFrame (h : Kept lit s₀ s) (frame : Nat) : Kept lit s₀ (s.reportFrame frame) := h.mapRollInCamera _
theorem cutUsable (h : Kept lit s₀ s) (frames : Nat) : Kept lit s₀ (s.cutUsable frames) := h.mapRollInCamera _

theorem toReady (h : Kept lit s₀ s) {u : TransportUnit} (hu : u.state = .ready) : Kept lit s₀ (s.withTransport u) :=
  h.withTransport fun _ _ _ => .inr (.inl hu)

theorem endLeader (h : Kept lit s₀ s) : Kept lit s₀ s.endLeader := ((h.toReady rfl).reportFrame 1).raise _

theorem reportAdvance (h : Kept lit s₀ s) (order : Option Nat) (moved : Bool)
    (hready : moved = true → s.transport.state = .ready)
    (hdark : lit → s₀.lightSafe → s.LightFits → ∀ p, s.exposure.purpose = some p → p.forOrder = false) :
    Kept lit s₀ (s.reportAdvance order moved) := by
  cases order with
  | none => exact h
  | some id => exact h.advanceOutcome id moved hready hdark

theorem endAdvance (h : Kept lit s₀ s) (hstate : s.transport.state = .advancing) : Kept lit s₀ s.endAdvance := by
  refine ((h.toReady rfl).reportFrame _).reportAdvance _ true (fun _ => ?_) fun hl hs _ p hp => ?_
  · simp [State.reportFrame, TransportUnit.stopMotor]
  · exact (h.light hl hs).dark_of_not_ready (by simp [hstate]) p (by simpa [State.reportFrame] using hp)

theorem takePulse (h : Kept lit s₀ s) : Kept lit s₀ s.takePulse := by
  have hcounted := h.withTransport (u := s.transport.pulse) fun _ _ _ => .inl rfl
  unfold State.takePulse
  refine iteInduction (fun _ => h) fun _ => ?_
  dsimp only
  split
  · exact iteInduction (fun _ => hcounted.endLeader) fun _ => hcounted
  next hstate => exact iteInduction (fun _ => hcounted.endAdvance hstate) fun _ => hcounted
  · exact hcounted

theorem stallLeader (h : Kept lit s₀ s) (hstate : s.transport.state = .leader) : Kept lit s₀ s.stallLeader :=
  ((h.withTransport_of_not_ready (by simp [hstate])).cutUsable 0).raise _

theorem stallAdvance (h : Kept lit s₀ s) (hstate : s.transport.state = .advancing) : Kept lit s₀ s.stallAdvance := by
  have hready : s.transport.state ≠ .ready := by simp [hstate]
  refine (((h.withTransport_of_not_ready hready).cutUsable _).raise _).reportAdvance _ false (fun hmoved => nomatch hmoved)
    fun hl hs _ p hp => ?_
  exact (h.light hl hs).dark_of_not_ready hready p (by simpa [State.cutUsable] using hp)

/-! ## Lightings -/

/-- A settle under way ends (R64). -/
theorem endSettle (h : Kept lit s₀ s) {p : Purpose} (hstate : s.exposure.state = .settle)
    (hpurpose : s.exposure.purpose = some p) : Kept lit s₀ (s.endSettle p) := by
  have hlamp : s.exposure.drives → (∃ k, s.exposure.lamp = .settling k) ∧ s.exposure.lampEnable = true ∧
      s.exposure.shutterOpen = false := fun hd => by
    unfold ExposureUnit.drives at hd
    rw [hstate] at hd
    exact ⟨hd.1, hd.2.1, hd.2.2.1⟩
  have hlit := h.withExposure_same (e :=
    { s.exposure with
      lamp := s.exposure.lamp.settled, litTime := s.calibration.settle
      state := match p with
        | .exposure _ _ => .expose
        | .orderPass | .testPass | .calibration => .meter
      shutterOpen := match p with
        | .exposure _ _ => true
        | .orderPass | .testPass | .calibration => s.exposure.shutterOpen }) (fun hd => by
      obtain ⟨⟨k, hk⟩, henable, hshutter⟩ := hlamp hd
      cases p <;> simp [ExposureUnit.drives, hk, Lamp.settled, henable, hshutter, hpurpose]) rfl rfl
  unfold State.endSettle
  dsimp only
  cases p with
  | orderPass => exact hlit.withMetering _
  | testPass => exact hlit.withMetering _
  | calibration => exact hlit
  | exposure => exact hlit.withMetering _

theorem endExposure (h : Kept lit s₀ s) (time : Nat) : Kept lit s₀ (s.endExposure time) :=
  ((h.litFor _).endLighting.meterIdle).completeExposure rfl

theorem failLamp (h : Kept lit s₀ s) : Kept lit s₀ s.failLamp := by
  unfold State.failLamp
  split
  · exact (h.raise _).endLighting.meterIdle
  next o hactive =>
    have hspoiled := (h.raise .lampFault).abortExposure true
    have hdark : ((s.raise .lampFault).abortExposure true).exposure.purpose = none := by
      simp [State.abortExposure, State.endLighting]
    have hnone : lit → s₀.lightSafe → ((s.raise .lampFault).abortExposure true).LightFits → ∀ p,
        ((s.raise .lampFault).abortExposure true).exposure.purpose = some p → p.forOrder = false :=
      fun _ _ _ p hp => nomatch hdark.symm.trans hp
    refine iteInduction (fun _ => hspoiled.finishOrder rfl fun hl hs hfits => State.ne_of_dark (hnone hl hs hfits)) fun _ =>
      iteInduction (fun _ => hspoiled.finishOrder rfl fun hl hs hfits => State.ne_of_dark (hnone hl hs hfits)) fun _ =>
        hspoiled.pauseOrder .lamp (fun _ => ?_) hnone
    rw [State.abortExposure_active]
    exact (State.activeOrder_eq_some hactive).2.1

theorem endWatchGroup (h : Kept lit s₀ s) (step time average : Nat) : Kept lit s₀ (s.endWatchGroup step time average) := by
  have hcounted : Kept lit s₀ ((s.withMetering { s.metering with watchGroups := s.metering.watchGroups + 1 }).litFor
      (max s.exposure.litTime (s.calibration.settle + min time ((s.metering.watchGroups + 1) * Config.groupTime)))) :=
    (h.withMetering _).litFor _
  exact iteInduction (fun _ => hcounted.failLamp) fun _ => hcounted

theorem endTestPass (h : Kept lit s₀ s) (t : MeterTest) (a : Averages) : Kept lit s₀ (s.endTestPass t a) := by
  unfold State.endTestPass
  dsimp only
  refine Kept.meterIdle (endLighting (litFor (raise ?_ _) _))
  split_ifs
  · exact (h.writeRecord _).raise _
  · exact h.writeRecord _

/-! ## Calibration -/

theorem acceptCalibration (h : Kept lit s₀ s) (a : Averages) (offsets : List Int) :
    Kept lit s₀ (s.acceptCalibration a offsets) := (h.withCalibration _).markDirty 0

theorem judgeCalibration (h : Kept lit s₀ s) (r : CalibrationResults) : Kept lit s₀ (s.judgeCalibration r) := by
  unfold State.judgeCalibration
  dsimp only
  split
  · refine Kept.meterIdle (raise (writeRecord ?_ _) _)
    split_ifs
    · exact h.endLighting.acceptCalibration _ _
    · exact h.endLighting
  · exact h.endLighting

/-- The next stage of a calibration (R38). -/
theorem nextCalibrationStep (h : Kept lit s₀ s) (step : Nat) (hpurpose : s.exposure.purpose = some .calibration) :
    Kept lit s₀ (s.nextCalibrationStep step) := by
  have haccrued := h.withExposure_same (e := { s.exposure with heatUsed := s.exposure.heatAfter }) (fun hd => hd) rfl rfl
  exact haccrued.lightLamp step fun _ _ hfits => LitSafely.admits hfits hpurpose

theorem endCalibrationStage (h : Kept lit s₀ s) (r : CalibrationResults) (a : Averages)
    (hpurpose : s.exposure.purpose = some .calibration) : Kept lit s₀ (s.endCalibrationStage r a) := by
  have hkept : ∀ results, Kept lit s₀ ((s.litFor (stageTime s.calibration r.stages)).withMetering
      { (s.litFor (stageTime s.calibration r.stages)).metering with calibrating := some results }) := fun _ =>
    (h.litFor _).withMetering _
  unfold State.endCalibrationStage
  dsimp only
  exact iteInduction (fun _ => (hkept _).nextCalibrationStep _ hpurpose) fun _ => (hkept _).judgeCalibration _

/-! ## The active order's pass -/

/-- The first frame begins with nothing lit, the gate OCCUPIED and the transport READY (R12). -/
theorem beginFirstFrame (h : Kept lit s₀ s) (hgate : lit → s₀.lightSafe → s.exposure.gate.reading = true)
    (hready : lit → s₀.lightSafe → s.transport.state = .ready) (hdark : s.exposure.purpose = none) :
    Kept lit s₀ s.beginFirstFrame := by
  unfold State.beginFirstFrame
  split
  · exact h
  next o hactive =>
    refine iteInduction (fun _ => h) fun hexposing => ?_
    split
    · refine h.beginFrame (fun p hp => ?_) (fun hl hs _ _ _ => hgate hl hs) (fun hl hs _ => hready hl hs)
        fun _ _ _ p hp => nomatch hdark.symm.trans hp
      obtain rfl := Option.some.inj ((State.activeOrder_eq_some hactive).2.2.symm.trans hp)
      exact not_not.mp hexposing
    · exact h.withExposure_same (fun hd => hd) rfl rfl
    · exact h

/-- The pass of the active order ends (R31, R11, R12). -/
theorem endOrderPass (h : Kept lit s₀ s) (a : Averages) (hpurpose : s.exposure.purpose = some .orderPass) :
    Kept lit s₀ (s.endOrderPass a).beginFirstFrame := by
  have hgate : lit → s₀.lightSafe → s.exposure.gate.reading = true := fun hl hs =>
    ((h.light hl hs).gate _ hpurpose).mpr (by simp)
  have hready : lit → s₀.lightSafe → s.transport.state = .ready := fun hl hs => (h.light hl hs).ready _ hpurpose rfl
  unfold State.endOrderPass
  split
  next hnone => simpa [State.beginFirstFrame, hnone] using h
  next o hactive =>
    have hmarked := (State.activeOrder_eq_some hactive).2.1
    have hended : ∀ u : State, Kept lit s₀ u → u.exposure = s.exposure → u.transport = s.transport →
        u.orders = s.orders → Kept lit s₀ (u.passLit.endLighting.meterIdle.pauseOrder o.id .lamp).beginFirstFrame ∧
          Kept lit s₀ (u.passLit.endLighting.meterIdle.planOrder o a).beginFirstFrame := by
      intro u hu hexposure htransport horders
      have hover := (hu.litFor (passHeat u.calibration)).endLighting.meterIdle
      have hreading : u.passLit.endLighting.meterIdle.exposure.gate.reading = s.exposure.gate.reading := by
        simp [State.passLit, State.endLighting, State.litFor, hexposure]
      have hmoved : u.passLit.endLighting.meterIdle.transport = s.transport := htransport
      have hdark : u.passLit.endLighting.meterIdle.exposure.purpose = none := rfl
      have hactiveu : u.passLit.endLighting.meterIdle.orders.active = some o.id :=
        (congrArg OrderTable.active horders).trans hmarked
      constructor
      · exact (hover.pauseOrder .lamp (fun _ => hactiveu) fun _ _ _ p hp => nomatch hdark.symm.trans hp).beginFirstFrame
          (fun hl hs => hreading.trans (hgate hl hs)) (fun hl hs => hmoved ▸ hready hl hs) hdark
      · exact (hover.planOrder a hactiveu hdark fun hl hs _ => hreading.trans (hgate hl hs)).beginFirstFrame
          (fun hl hs => by rw [State.planOrder_exposure]; exact hreading.trans (hgate hl hs))
          (fun hl hs => by rw [State.planOrder_transport]; exact hmoved ▸ hready hl hs)
          (by rw [State.planOrder_exposure]; exact hdark)
    dsimp only
    split_ifs
    · exact (hended _ ((h.writeRecord _).raise .lampFault) rfl rfl rfl).1
    · exact (hended _ (h.writeRecord _) rfl rfl rfl).2

end Kept

end Sys2Proof.Machine
end

section
/-! PROOFS. The six promises kept by the printer's events, by power and RESET, by the line, and so by every step. -/

namespace Sys2Proof.Machine

variable {lit : Prop} {s₀ s : State}

/-! ## The Label Unit stands apart from the charges -/

section
variable (s : State) (l : LabelUnit)

theorem State.startWrite_withLabels : (s.withLabels l).startWrite = s.startWrite.withLabels l := by
  unfold startWrite
  rw [show (s.withLabels l).engineFree = s.engineFree from rfl, withLabels_store]
  split <;> rfl

theorem State.markAccount_withLabels (n : Nat) : (s.withLabels l).markAccount n = (s.markAccount n).withLabels l := by
  unfold markAccount
  rw [show (s.withLabels l).slotOf n = s.slotOf n from rfl]
  cases s.slotOf n with
  | none => rfl
  | some slot => exact startWrite_withLabels (s.withStore { s.store with dirty := s.store.dirty.set (6 + slot) true }) l

theorem State.noteLow_withLabels (before after : Bool) :
    (s.withLabels l).noteLow before after = (s.noteLow before after).withLabels l := by
  unfold noteLow
  split <;> rfl

theorem State.changeAccount_withLabels (n : Nat) (f : Account → Account) :
    (s.withLabels l).changeAccount n f = (s.changeAccount n f).withLabels l := by
  unfold changeAccount
  rw [show (s.withLabels l).findAccount n = s.findAccount n from rfl]
  cases s.findAccount n with
  | none => rfl
  | some a =>
    dsimp only
    rw [← noteLow_withLabels]
    refine congrArg (fun u : State => u.noteLow a.low (f a).low) ?_
    split
    · exact markAccount_withLabels (s.mapAccount n f) l n
    · rfl

theorem State.moveHold_withLabels (id : Nat) (part : HoldPart) (amount : Nat) (posted : Bool) :
    (s.withLabels l).moveHold id part amount posted = (s.moveHold id part amount posted).withLabels l := by
  unfold moveHold
  rw [show (s.withLabels l).findOrder id = s.findOrder id from rfl]
  cases s.findOrder id with
  | none => rfl
  | some o => exact changeAccount_withLabels (s.mapOrder id fun q => q.lowerHold part (min amount (o.hold part))) l _ _

theorem State.chargeLabel_withLabels (id : Nat) : (s.withLabels l).chargeLabel id = (s.chargeLabel id).withLabels l := by
  unfold chargeLabel
  rw [show (s.withLabels l).findOrder id = s.findOrder id from rfl]
  cases s.findOrder id with
  | none => rfl
  | some o => exact moveHold_withLabels (s.oweFewerLabels id 1) l _ _ _ _

end

@[simp] theorem State.chargeLabel_labels (s : State) (id : Nat) : (s.chargeLabel id).labels = s.labels := by
  unfold chargeLabel
  split
  · rfl
  · simp

@[simp] theorem LabelUnit.tick_queue (l : LabelUnit) : l.tick.queue = l.queue := by
  unfold tick
  split <;> simp

theorem State.not_held_of_listening (h : s.listening = true) : s.power.phase ≠ .held := by
  simp only [listening, decide_eq_true_eq] at h
  simp [h]

namespace Kept

/-! ## The printer -/

theorem takeByte (h : Kept lit s₀ s) : Kept lit s₀ s.takeByte := by
  unfold State.takeByte
  split
  next label index hsending =>
    have hwaiting : s.TablesFit → s.labels.queue ≠ [] := fun ht => by
      have hprinter := ht.labels.printer
      rw [hsending] at hprinter
      exact hprinter.1
    split
    next hmore => exact h.withLabels fun ht => ⟨⟨ht.labels.queue, hwaiting ht, hmore⟩, fun hempty => hempty⟩
    next => exact h.withLabels fun ht => ⟨⟨ht.labels.queue, hwaiting ht⟩, fun hempty => hempty⟩
  all_goals exact h

/-- A printer in FEEDING whose label is done takes the next label of the queue, or is IDLE with none (R130). -/
theorem completeLabel (h : Kept lit s₀ s) {e : LabelEntry} {rest : List LabelEntry} (hqueue : s.labels.queue = e :: rest) :
    Kept lit s₀ (s.completeLabel e rest) := by
  have hcharged : Kept lit s₀ ((s.labelFrame e).chargeLabel e.order) := Kept.chargeLabel (h.mapRoll e.roll _) e.order
  have hlabels : ((s.labelFrame e).chargeLabel e.order).labels = s.labels := by simp [State.labelFrame]
  have hsettled : ((s.withLabels { s.labels with queue := rest }).labelFrame e).chargeLabel e.order =
      ((s.labelFrame e).chargeLabel e.order).withLabels { s.labels with queue := rest } :=
    State.chargeLabel_withLabels (s.labelFrame e) _ e.order
  have hroom : ((s.labelFrame e).chargeLabel e.order).TablesFit → rest.length ≤ Config.maxLabels := fun ht => by
    have hqueued := ht.labels.queue
    rw [hlabels, hqueue, List.length_cons] at hqueued
    omega
  have hreset : ((s.labelFrame e).chargeLabel e.order).TablesFit →
      ((s.labelFrame e).chargeLabel e.order).power.phase ≠ .held := fun ht hheld => by
    have hempty := ht.atReset hheld
    rw [hlabels, hqueue] at hempty
    cases hempty
  unfold State.completeLabel
  dsimp only
  rw [hsettled]
  refine iteInduction (fun hlast => ?_) fun _ => ?_
  · obtain rfl := List.isEmpty_iff.mp hlast
    exact (hcharged.withLabels (l := { s.labels with queue := [] }.enter .idle) fun ht =>
      ⟨⟨hroom ht, rfl⟩, fun _ => rfl⟩).raise _
  · exact hcharged.print (l := { s.labels with queue := rest }.enter .idle) fun ht =>
      ⟨hroom ht, .inl rfl, fun hheld => absurd hheld (hreset ht)⟩

theorem takeFed (h : Kept lit s₀ s) : Kept lit s₀ s.takeFed := by
  unfold State.takeFed
  split
  next hqueue => exact h.completeLabel hqueue
  · exact h

/-! ## Power, RESET and the store -/

theorem withPower (h : Kept lit s₀ s) {p : Power} (hp : p.phase = .held → s.power.phase = .held) :
    Kept lit s₀ (s.withPower p) where
  notices hs := State.noticeSetsClear_congr (h.notices hs)
  mark hm := State.marks_congr (h.mark hm)
  balance hb := let b := h.balance hb; ⟨b.distinct, b.numbers, b.held, b.named, fun hheld => b.atReset (hp hheld)⟩
  light hl hs := (h.light hl hs).congr
  tables ht := let t := h.tables ht; ⟨t.orders, t.rolls, t.labels, fun hheld => t.atReset (hp hheld)⟩
  store hs := (h.store hs).congr

/-- Power-on and RESET values meet every promise, whatever stood before, where the places have their sizes (R163, R170). -/
theorem cleared (h : Kept lit s₀ s) (phase : Phase) : Kept lit s₀ (s.cleared phase) where
  notices _ := ⟨Nat.two_pow_pos 14, Nat.two_pow_pos 14⟩
  mark _ := ⟨List.nodup_nil, by simp [State.cleared, State.courses, OrderTable.reset], by simp [State.cleared, OrderTable.reset]⟩
  balance _ := State.Balanced.of_no_orders rfl (by simp [State.cleared, AccountTable.reset, AccountTable.accounts])
    (by simp [State.cleared, AccountTable.reset, AccountTable.accounts])
  light _ _ := {
    marks := ⟨List.nodup_nil, by simp [State.cleared, State.courses, OrderTable.reset],
      by simp [State.cleared, OrderTable.reset]⟩
    drives := ⟨rfl, rfl, rfl, rfl, rfl⟩
    gate := fun _ hp => nomatch hp
    ready := fun _ hp => nomatch hp
    pass := fun hp => nomatch hp
    frame := fun _ _ hp => nomatch hp
    slide := by simp [State.cleared, State.courses, OrderTable.reset] }
  tables _ := by
    refine ⟨Nat.zero_le _, Nat.zero_le _, ⟨Nat.zero_le _, ?_⟩, fun _ => rfl⟩
    simp only [State.cleared, LabelUnit.cleared, LabelUnit.reset, LabelUnit.fromLines]
    split_ifs <;> trivial
  store hs := by
    have hreset := settingsStore_reset_formed
    exact ⟨⟨(h.store hs).store.places, hreset.dirty, (h.store hs).store.sizes, fun _ hw => nomatch hw⟩, rfl, by simp [State.cleared, AccountTable.reset]⟩

/-- The places are read at a part held by RESET (R163): no order is in the table. -/
theorem loadPlaces (h : Kept lit s₀ s) (hheld : s.power.phase = .held) : Kept lit s₀ s.loadPlaces := by
  have hloaded : Kept lit s₀
      { s with
        calibration := (validRecord (judge readCalibration (s.store.place 0))).getD .default
        films := s.store.loadedFilms
        accounts :=
          { s.accounts with
            slots := loadSlots [] s.store.accountPlaces
            rates := validRecord (judge readRateCard (s.store.place 5)) } } := {
    notices := fun hs => h.notices hs
    mark := fun hm => h.mark hm
    balance := fun hb => State.Balanced.of_no_orders ((h.balance hb).atReset hheld) (loadSlots_numbers [] _).1
      fun a ha => by
        obtain ⟨image, -, himage⟩ := mem_loadSlots (State.mem_accounts.mp ha)
        exact accountOf_bounds himage
    light := fun hl hs => (h.light hl hs).congr rfl rfl rfl
    tables := fun ht => (h.tables ht).congr rfl rfl rfl rfl
    store := fun hs => ⟨(h.store hs).store, by simp [SettingsStore.loadedFilms],
      by simp [loadSlots_length, SettingsStore.accountPlaces, Config.accountSlots]⟩ }
  exact iteInduction (fun _ => hloaded.raise _) fun _ => hloaded

/-- The load begins at a part held by RESET: no order is in the table and no label waits (R163, R170). -/
theorem beginLoad (h : Kept lit s₀ s) (hheld : s.power.phase = .held) : Kept lit s₀ s.beginLoad := by
  have hinputs : Kept lit s₀ s.beginInputs := {
    notices := fun hs => h.notices hs
    mark := fun hm => h.mark hm
    balance := fun hb => (h.balance hb).congr rfl rfl rfl
    light := fun hl hs => by
      have hunit : LitSafely s.orders.active s.courses s.beginInputs.exposure s.transport.state :=
        LitSafely.withUnit (h.light hl hs) (h.light hl hs).drives rfl fun p hp => LitSafely.admits (h.light hl hs) hp
      have hmoved : ∀ st : TransportState, s.transport.state = st → st ≠ .ready →
          LitSafely s.orders.active s.courses s.beginInputs.exposure s.transport.meetReading.state := fun st hst hready =>
        LitSafely.withTransport hunit (.inr ((h.light hl hs).dark_of_not_ready (hst ▸ hready)))
      obtain hsame | hempty | hmisseated := s.transport.meetReading_state
      · exact (congrArg (LitSafely s.orders.active s.courses s.beginInputs.exposure) hsame).mpr hunit
      · exact hmoved _ hempty (by decide)
      · exact hmoved _ hmisseated (by decide)
    tables := fun ht => by
      obtain ⟨horders, hrolls, hlabels, hreset⟩ := h.tables ht
      refine ⟨horders, hrolls, ⟨hlabels.queue, ?_⟩, hreset⟩
      simp only [State.beginInputs, LabelUnit.fromLines]
      split_ifs
      exacts [trivial, trivial, hreset hheld]
    store := fun hs => (h.store hs).congr rfl rfl rfl }
  have hplaces : Kept lit s₀ s.beginInputs.loadPlaces := hinputs.loadPlaces hheld
  exact hplaces.withPower fun hphase => nomatch hphase

theorem takeReset (h : Kept lit s₀ s) : Kept lit s₀ s.takeReset := by
  unfold State.takeReset
  split_ifs
  · exact (h.cleared .held).beginLoad rfl
  · exact h.cleared .held

theorem endLoad (h : Kept lit s₀ s) (station : BitVec 4) (rate : BitVec 2) : Kept lit s₀ (s.endLoad station rate) :=
  ((h.withPower (p := { s.power with phase := .listening }) fun hphase => nomatch hphase).withLine _).startWrite

theorem losePower (h : Kept lit s₀ s) (torn : List Byte) : Kept lit s₀ (s.losePower torn) := by
  unfold State.losePower
  cases s.store.engine with
  | none => exact Kept.cleared (h.withStore (t := s.store) fun hs => hs.store) .off
  | some w =>
    exact Kept.cleared (s := s.withStore { s.store with
        places := s.store.places.set w.place (tornImage w.place torn), engine := none })
      (h.withStore fun hs => hs.store.setPlace (tornImage_length _ _)) .off

theorem endWrite (h : Kept lit s₀ s) {w : PlaceWrite} (hw : s.store.engine = some w) : Kept lit s₀ (s.endWrite w) := by
  have hwritten := h.withStore (t := { s.store with places := s.store.places.set w.place w.image, engine := none })
    fun hs => hs.store.setPlace (hs.store.engine w hw).2.size
  unfold State.endWrite
  dsimp only
  split_ifs
  · exact hwritten.takeReset
  · exact hwritten.startWrite

theorem fallReset (h : Kept lit s₀ s) : Kept lit s₀ s.fallReset := by
  have hlow := h.withPower (p := { s.power with resetHigh := false }) fun hphase => hphase
  unfold State.fallReset
  dsimp only
  split_ifs
  · exact hlow
  · exact hlow.withStore fun hs => hs.store.congr rfl hs.store.dirty hs.store.engine
  · exact hlow.takeReset

theorem riseReset (h : Kept lit s₀ s) : Kept lit s₀ s.riseReset := by
  have hhigh := h.withPower (p := { s.power with resetHigh := true }) fun hphase => hphase
  unfold State.riseReset
  dsimp only
  split_ifs with hheld
  · exact hhigh.beginLoad hheld
  · exact hhigh

/-! ## Restart -/

theorem restartMetering (h : Kept lit s₀ s) : Kept lit s₀ s.restartMetering := by
  unfold State.restartMetering
  split
  · exact h.abandonTest false
  · exact h.abandonCalibration false
  all_goals exact h

theorem restartBlocks (h : Kept lit s₀ s) : Kept lit s₀ s.restartBlocks := by
  have hcleared : Kept lit s₀ (s.withNotices { s.notices with pending := 0 }) :=
    h.withSets fun hs => ⟨by simp, hs.2⟩
  exact (hcleared.cutShort .restart false true).restartMetering.restartPrinter

/-! ## The line -/

theorem takeRequest (h : Kept lit s₀ s) (r : Request) (hphase : s.power.phase ≠ .held) : Kept lit s₀ (s.takeRequest r) :=
  (h.serve r hphase).withLine _

theorem deliver (h : Kept lit s₀ s) (r : Request) (hphase : s.power.phase ≠ .held) : Kept lit s₀ (s.deliver r) := by
  unfold State.deliver
  split
  · exact h.takeRequest r hphase
  · exact h.withLine _
  · exact h

theorem beginReply (h : Kept lit s₀ s) : Kept lit s₀ s.beginReply := by
  unfold State.beginReply
  split
  · exact h.withLine _
  · exact h

theorem dropFrame (h : Kept lit s₀ s) : Kept lit s₀ s.dropFrame := h.withLine _

theorem arrive (h : Kept lit s₀ s) (kind : Nat) (body : List Byte) : Kept lit s₀ (s.arrive kind body) := by
  unfold State.arrive
  split_ifs with hclosed
  · exact h
  · exact h.dropFrame
  · refine h.dropFrame.deliver _ (State.not_held_of_listening ?_)
    simp only [Bool.or_eq_true, Bool.not_eq_true', decide_eq_true_eq, not_or, Bool.not_eq_false] at hclosed
    exact hclosed.1

theorem endReply (h : Kept lit s₀ s) (hphase : s.power.phase ≠ .held) : Kept lit s₀ s.endReply := by
  have hleave : Kept lit s₀ s.leaveService := by
    unfold State.leaveService
    dsimp only
    split
    · exact h.withLine _
    · exact (h.withLine _).takeRequest _ hphase
  unfold State.endReply
  split
  · exact iteInduction (fun _ => (h.withLine _).restartBlocks) fun _ => hleave
  · exact h

theorem takeBroadcast (h : Kept lit s₀ s) (kind : Nat) (body : List Byte) : Kept lit s₀ (s.takeBroadcast kind body) :=
  iteInduction (fun _ => h.takeStop) fun _ => iteInduction (fun _ => (h.withLine _).restartBlocks) fun _ => h

theorem takeData (h : Kept lit s₀ s) (b : Byte) (hphase : s.power.phase ≠ .held) : Kept lit s₀ (s.takeData b) := by
  have hcomplete : ∀ toAll bytes, Kept lit s₀ (s.dropFrame.completeFrame toAll bytes) := fun toAll bytes => by
    cases bytes with
    | nil => exact h.dropFrame
    | cons kind body => exact iteInduction (fun _ => h.dropFrame.takeBroadcast _ _) fun _ => h.dropFrame.deliver _ hphase
  unfold State.takeData
  split
  · exact h
  · exact iteInduction (fun _ => h.dropFrame) fun _ => h.withLine _
  · exact h.withLine _
  · exact iteInduction (fun _ => hcomplete _ _) fun _ => h.dropFrame

/-! ## The gate -/

theorem gateEndsLighting (h : Kept lit s₀ s) : Kept lit s₀ s.gateEndsLighting := by
  unfold State.gateEndsLighting
  split
  · exact h
  · exact h.abandonPass
  · exact h.abandonTest true
  · exact h.abandonCalibration true
  · exact h.abortExposure true

/-- A change of the gate keeps the five promises that do not speak of it. -/
theorem changeGate (h : Kept lit s₀ s) (hlit : ¬ lit) : Kept lit s₀ s.changeGate := by
  have hread := h.withExposure (e := { s.exposure with gate := s.exposure.gate.taken, firstReading := false })
    fun hl => absurd hl hlit
  have hcooled := hread.gateEndsLighting.withExposure (e := { (s.withExposure { s.exposure with
    gate := s.exposure.gate.taken, firstReading := false }).gateEndsLighting.exposure with heatUsed := 0 })
    fun hl => absurd hl hlit
  have hopened : ∀ u underWay, Kept lit s₀ u → Kept lit s₀ (u.gateOpened underWay) := fun u underWay hu => by
    unfold State.gateOpened
    split
    · exact hu
    · exact iteInduction (fun _ => hu) fun _ => hu.finishOrder rfl fun hl => absurd hl hlit
  unfold State.changeGate
  dsimp only
  split_ifs
  exacts [hcooled, hcooled.raise _, hopened _ _ hread.gateEndsLighting, hopened _ _ (hread.gateEndsLighting.raise _)]

theorem changeGateSwitch (h : Kept lit s₀ s) (closed : Bool) : Kept lit s₀ (s.changeGateSwitch closed) := by
  unfold State.changeGateSwitch
  dsimp only
  split_ifs
  · exact h
  · refine h.withExposure_same (fun hd => hd) rfl ?_
    unfold Debounce.change
    split_ifs <;> rfl
  · exact h.withExposure_same (fun hd => hd) rfl rfl

/-! ## Every command and every step -/

theorem withKey (h : Kept lit s₀ s) (d : Debounce) : Kept lit s₀ (s.withAccounts { s.accounts with key := d }) :=
  h.withAccounts rfl

theorem of_next {t u : State} (hu : Kept lit s₀ u)
    (h : (Host.Outcome.next u : Host.Outcome State Fault Refusal) = Host.Outcome.next t) : Kept lit s₀ t := by
  cases h
  exact hu

/-- A command keeps the promises; a change of the gate all but the light, which it may end (R68). -/
theorem exec (h : Kept lit s₀ s) {c : Instr} (hc : lit → c ≠ .gateChange) {t : State} (hexec : exec c s = .next t) :
    Kept lit s₀ t := by
  have hlistening : ∀ {u : State}, (s.listening = true → Kept lit s₀ u) → Kept lit s₀ (if s.listening then u else s) :=
    fun hu => iteInduction hu fun _ => h
  cases c with
  | status | setNoticeEnable | clearNoticeEnable | clearNotices | restart | stop | submitOrder | cancelOrder | orderReport
  | retireOrder | start | setLibraryMark | labelStatus | resumePrinter | declareRoll | rewind | rollReport | keepReport
  | closeRoll | setFilmKind | readFilmKind | setStandCalibration | readStandCalibration | calibrateLamp | meterTest
  | readMetering | setAccount | accountReport | closeAccount | resetPeriod | setRates | readRates =>
    exact of_next (h.arrive _ _) hexec
  | broadcastStop => exact of_next (hlistening fun _ => h.dropFrame.takeBroadcast _ _) hexec
  | broadcastRestart => exact of_next (hlistening fun _ => h.dropFrame.takeBroadcast _ _) hexec
  | addressCharacter bits => exact of_next (hlistening fun _ => h.withLine _) hexec
  | dataCharacter byte => exact of_next (hlistening fun hl => h.takeData byte (State.not_held_of_listening hl)) hexec
  | badCharacter => exact of_next (hlistening fun _ => h.dropFrame) hexec
  | gapTimeout => exact of_next (hlistening fun _ => h.dropFrame) hexec
  | replyBegin => exact of_next (hlistening fun _ => h.beginReply) hexec
  | replyEnd => exact of_next (hlistening fun hl => h.endReply (State.not_held_of_listening hl)) hexec
  | powerOn => exact of_next h.takeReset hexec
  | powerLoss torn => exact of_next (h.losePower torn) hexec
  | resetFall => exact of_next h.fallReset hexec
  | resetRise => exact of_next h.riseReset hexec
  | loadEnd station rate => exact of_next (iteInduction (fun _ => h.endLoad station rate) fun _ => h) hexec
  | writeEnd =>
    refine of_next ?_ hexec
    split
    · exact h
    next w hw => exact h.endWrite hw
  | gateSwitchChange closed => exact of_next (h.changeGateSwitch closed) hexec
  | gateChange => exact of_next (iteInduction (fun _ => h.changeGate fun hl => hc hl rfl) fun _ => h) hexec
  | keySwitchChange closed => exact of_next (h.withKey _) hexec
  | keyReadingChange => exact of_next (iteInduction (fun _ => h.withKey _) fun _ => h) hexec
  | buttonLevelChange button closed => exact of_next (h.withPanel _) hexec
  | startPress => exact of_next (iteInduction (fun _ => (h.withPanel _).takeStartPress) fun _ => h) hexec
  | stopPress => exact of_next (iteInduction (fun _ => (h.withPanel _).takeStop) fun _ => h) hexec
  | rewindPress => exact of_next (iteInduction (fun _ => (h.withPanel _).takeRewindPress) fun _ => h) hexec
  | buttonRelease button => exact of_next (iteInduction (fun _ => h.withPanel _) fun _ => h) hexec
  | settleEnd =>
    refine of_next ?_ hexec
    unfold State.settleOver
    split
    next p hstate hpurpose => exact h.endSettle hstate hpurpose
    · exact h
  | exposureTimeEnd =>
    refine of_next ?_ hexec
    split
    · exact h.endExposure _
    · exact h
  | watchGroupEnd c1 c2 c3 c4 =>
    refine of_next ?_ hexec
    split
    · exact h.endWatchGroup _ _ _
    · exact h
  | orderPassEnd s1 s2 s3 s4 =>
    refine of_next ?_ hexec
    split
    next hpurpose => exact h.endOrderPass _ hpurpose
    · exact h
  | testPassEnd s1 s2 s3 s4 =>
    refine of_next ?_ hexec
    split
    · exact h.endTestPass _ _
    · exact h
  | calibrationStageEnd s1 s2 s3 s4 =>
    refine of_next ?_ hexec
    split
    next hpurpose _ => exact h.endCalibrationStage _ _ hpurpose
    · exact h
  | detectReadingChange contact1 contact2 =>
    refine of_next (h.withContacts ?_) hexec
    split
    · exact s.transport.changeContacts_state contact1 contact2
    · exact .inl rfl
  | magazineSeated code1 code2 =>
    exact of_next (iteInduction (fun hs => (h.withTransport_of_not_ready (by simp [hs.1])).raise _) fun _ => h) hexec
  | misseated =>
    exact of_next (iteInduction (fun hs => (h.withTransport_of_not_ready (by simp [hs.1])).raise _) fun _ => h) hexec
  | seatingEmpty =>
    refine of_next ?_ hexec
    split
    next hstate _ => exact h.unseat _ (by simp [hstate])
    next hstate _ => exact h.unseat _ (by simp [hstate])
    · exact h
  | magazineRemoval => exact of_next (iteInduction (fun _ => h) fun _ => h.removeMagazine) hexec
  | perforationPulse => exact of_next h.takePulse hexec
  | leaderStall => exact of_next (iteInduction h.stallLeader fun _ => h) hexec
  | advanceStall => exact of_next (iteInduction h.stallAdvance fun _ => h) hexec
  | rewindEnd =>
    exact of_next (iteInduction (fun hs => (h.withTransport_of_not_ready (by simp [hs.1])).raise _) fun _ => h) hexec
  | rewindJam =>
    exact of_next (iteInduction (fun hs => (h.withTransport_of_not_ready (by simp [hs.1])).raise _) fun _ => h) hexec
  | byteTaken => exact of_next h.takeByte hexec
  | busyTimeout =>
    refine of_next ?_ hexec
    split
    · exact h.printerFails (.inr ⟨_, rfl⟩)
    all_goals exact h
  | fedPulse => exact of_next h.takeFed hexec
  | fedTimeout =>
    refine of_next ?_ hexec
    split
    · exact h.printerFails (.inr ⟨_, rfl⟩)
    all_goals exact h
  | prnStockFall =>
    have hlow := h.withLabels_same (l := { s.labels with stockHigh := false }) rfl rfl
    exact of_next (iteInduction (fun _ => hlow.printerFails (.inl rfl)) fun _ => hlow) hexec
  | prnFaultFall =>
    have hlow := h.withLabels_same (l := { s.labels with faultHigh := false }) rfl rfl
    exact of_next (iteInduction (fun _ => hlow.printerFails (.inr ⟨_, rfl⟩)) fun _ => hlow) hexec
  | prnStockRise => exact of_next (h.withLabels_same (l := { s.labels with stockHigh := true }) rfl rfl) hexec
  | prnFaultRise => exact of_next (h.withLabels_same (l := { s.labels with faultHigh := true }) rfl rfl) hexec

/-- One ms moves counts, which no promise reads (R69, R86, R127, R166). -/
theorem countMs (h : Kept lit s₀ s) : Kept lit s₀ s.countMs where
  notices hs := h.notices hs
  mark hm := h.mark hm
  balance hb := (h.balance hb).congr rfl rfl rfl
  light hl hs := LitSafely.withUnit (h.light hl hs) (h.light hl hs).drives rfl fun p hp => LitSafely.admits (h.light hl hs) hp
  tables ht := by
    obtain ⟨horders, hrolls, hlabels, hreset⟩ := h.tables ht
    exact ⟨horders, hrolls, hlabels.tick, fun hheld => s.labels.tick_queue ▸ hreset hheld⟩
  store hs := by
    obtain ⟨hstore, hfilms, hslots⟩ := h.store hs
    refine ⟨hstore.congr rfl hstore.dirty fun w hw => ?_, hfilms, hslots⟩
    obtain ⟨v, hv, rfl⟩ := Option.map_eq_some_iff.mp hw
    exact hstore.engine v hv

theorem tick (h : Kept lit s₀ s) : Kept lit s₀ s.tick := iteInduction (fun _ => h.countMs) fun _ => h

/-- Every step keeps the promises, one that takes a change of the gate all but the light. -/
theorem step {t : State} (hc : lit → ∀ rest, s.pending ≠ .gateChange :: rest) (hstep : step s = .next t) : Kept lit s t := by
  have h := Kept.refl lit s
  unfold Machine.step at hstep
  split at hstep
  · exact of_next h.tick hstep
  next c rest hpending => exact (h.withPending rest).exec (fun hl heq => hc hl rest (heq ▸ hpending)) hstep

end Kept

/-! ## The light at a change of the gate (R68) -/

@[simp] theorem State.abandonTest_exposure (s : State) (byGate : Bool) :
    (s.abandonTest byGate).exposure = s.endLighting.exposure := by
  unfold abandonTest
  dsimp only
  split <;> simp

@[simp] theorem State.abandonCalibration_exposure (s : State) (byGate : Bool) :
    (s.abandonCalibration byGate).exposure = s.endLighting.exposure := by
  unfold abandonCalibration
  dsimp only
  split <;> simp

@[simp] theorem State.abortExposure_exposure (s : State) (advance : Bool) :
    (s.abortExposure advance).exposure = s.endLighting.exposure := by simp [abortExposure]

theorem State.gateEndsLighting_exposure (s : State) :
    s.gateEndsLighting.exposure = if s.exposure.purpose = none then s.exposure else s.endLighting.exposure := by
  unfold gateEndsLighting
  split <;> simp_all [abandonPass]

@[simp] theorem State.gateOpened_exposure (s : State) (underWay : Bool) :
    (s.gateOpened underWay).exposure = s.exposure := by
  unfold gateOpened
  split
  · rfl
  · split <;> simp

/-- With the gate EMPTY no order stays in EXPOSING with frames unmade (R19). -/
theorem State.gateOpened_courses (hm : MarksActive s.orders.active s.courses) (underWay : Bool) {c : Course}
    (hc : c ∈ (s.gateOpened underWay).courses) (hexposing : c.state = .exposing) : c.unmade = 0 := by
  have hactive : c.state.isActive = true := by rw [hexposing]; rfl
  unfold gateOpened at hc
  split at hc
  next hnone =>
    have hmarked := (hm.marked c hc).mp hactive
    rw [active_eq_none hnone hm] at hmarked
    cases hmarked
  next o ho =>
    obtain ⟨hmem, hid, -⟩ := activeOrder_eq_some ho
    split at hc
    next hspared =>
      simp only [Order.finalAdvance, Bool.and_eq_true, decide_eq_true_eq] at hspared
      have hcid : c.id = o.id := Option.some.inj (((hm.marked c hc).mp hactive).symm.trans hid)
      rw [hm.eq_of_id hc (List.mem_map_of_mem hmem) hcid]
      exact hspared.1.2
    next =>
      rw [finishOrder_courses] at hc
      have hmarked := ((hm.finish (id := o.id) (final := .cutShort .slideRemoved) rfl).marked c hc).mp hactive
      simp [hid] at hmarked

/-- A change of the gate leaves nothing lit, and no order in EXPOSING with frames unmade when it is EMPTY (R68, R19). -/
theorem State.changeGate_lightFits (h : s.LightFits) : s.changeGate.LightFits := by
  have hkept := Kept.refl False s
  have hmark := s.markHolds_iff.mpr h.marks
  generalize hr : s.withExposure { s.exposure with gate := s.exposure.gate.taken, firstReading := false } = read
  have hended : read.gateEndsLighting.exposure.drives ∧ read.gateEndsLighting.exposure.purpose = none ∧
      read.gateEndsLighting.exposure.gate.reading = s.exposure.gate.level := by
    subst hr
    rw [gateEndsLighting_exposure]
    split_ifs with hnone
    · exact ⟨h.drives, hnone, rfl⟩
    · exact ⟨⟨rfl, rfl, rfl, rfl, rfl⟩, rfl, rfl⟩
  have hexposure : s.changeGate.exposure = if s.exposure.gate.level then
      { read.gateEndsLighting.exposure with heatUsed := 0 } else read.gateEndsLighting.exposure := by
    unfold changeGate
    rw [hr]
    dsimp only
    split_ifs <;> simp
  have hdark : s.changeGate.exposure.drives ∧ s.changeGate.exposure.purpose = none ∧
      s.changeGate.exposure.gate.reading = s.exposure.gate.level := by
    rw [hexposure]
    split_ifs <;> exact hended
  have hopened : s.exposure.gate.level = false → ∃ (u : State) (underWay : Bool), s.changeGate = u.gateOpened underWay ∧
      MarksActive u.orders.active u.courses := fun hempty => by
    have hmarks : Kept False s read.gateEndsLighting := by
      subst hr
      exact (hkept.withExposure fun hf => hf.elim).gateEndsLighting
    refine ⟨if s.exposure.firstReading then read.gateEndsLighting else read.gateEndsLighting.raise .slide,
      s.exposureUnderWay, by simp [changeGate, hempty, hr], ?_⟩
    split
    · exact hmarks.mark hmark
    · exact (hmarks.raise .slide).mark hmark
  obtain ⟨hdrives, hpurpose, hreading⟩ := hdark
  have hnone : ∀ p, s.changeGate.exposure.purpose ≠ some p := fun p hp => nomatch hpurpose.symm.trans hp
  exact {
    marks := (hkept.changeGate not_false).mark hmark
    drives := hdrives
    gate := fun p hp => absurd hp (hnone p)
    ready := fun p hp => absurd hp (hnone p)
    pass := fun hp => absurd hp (hnone _)
    frame := fun _ _ hp => absurd hp (hnone _)
    slide := fun c hc hexposing hunmade => by
      by_contra hreadingc
      obtain ⟨u, underWay, heq, hmarks⟩ := hopened (by simpa [hreading] using hreadingc)
      rw [heq] at hc
      exact hunmade (gateOpened_courses hmarks underWay hc hexposing) }

/-- Every step keeps the light safe (R63, R65, R68). -/
theorem lightSafe_step {t : State} (h : s.lightSafe) (hstep : step s = .next t) : t.lightSafe := by
  by_cases hgate : ∃ rest, s.pending = .gateChange :: rest
  · obtain ⟨rest, hpending⟩ := hgate
    have hfits := ((Kept.refl True s).withPending rest).light trivial h
    have hnext : (if s.exposure.gate.count.isSome then (s.withPending rest).changeGate else s.withPending rest) = t := by
      unfold step at hstep
      rw [hpending] at hstep
      exact Host.Outcome.next.inj hstep
    rw [State.lightSafe_iff, ← hnext]
    exact iteInduction (motive := State.LightFits) (fun _ => State.changeGate_lightFits hfits) fun _ => hfits
  · exact t.lightSafe_iff.mpr ((Kept.step (lit := True) (fun _ rest heq => hgate ⟨rest, heq⟩) hstep).light trivial h)

/-- Settles O5: of a kind above 13 no notice is raised, and no request enables one. -/
theorem noticeSetsStayClear : Obligations.NoticeSetsStayClear := fun _ _ h hstep =>
  (Kept.step (lit := False) (fun hf => hf.elim) hstep).notices h

/-- Settles O6: what every operation does to the ids, states and unmade frames of the orders keeps the mark. -/
theorem activeOrderMarkHolds : Obligations.ActiveOrderMarkHolds := fun _ t h hstep =>
  t.markHolds_iff.mpr ((Kept.step (lit := False) (fun hf => hf.elim) hstep).mark h)

/-- Settles O7: a hold is placed, posted and released at the order and its account together. -/
theorem accountsStayInBalance : Obligations.AccountsStayInBalance := fun _ t h hstep =>
  t.accountsBalance_iff.mpr ((Kept.step (lit := False) (fun hf => hf.elim) hstep).balance h)

/-- Settles O8: a lighting begins only where its clauses hold, and ends before one of them fails. -/
theorem lightStaysSafe : Obligations.LightStaysSafe := fun _ _ h hstep => lightSafe_step h hstep

/-- Settles O9: what enters a table has been checked for room, and an IDLE printer begins the head of the queue. -/
theorem tablesStayWithinLimits : Obligations.TablesStayWithinLimits := fun _ t h hstep =>
  t.tablesKept_iff.mpr ((Kept.step (lit := False) (fun hf => hf.elim) hstep).tables h)

/-- Settles O10: every image has the size of its place, and sums with its check byte to 90 unless it is blank. -/
theorem storeKeepsItsForm : Obligations.StoreKeepsItsForm := fun _ t h hstep =>
  t.storeKept_iff.mpr ((Kept.step (lit := False) (fun hf => hf.elim) hstep).store h)

end Sys2Proof.Machine
end

section
/-! PROOFS. A step, the state after reset and the panel's lamps. -/

namespace Sys2Proof.Machine

/-- Settles O1. -/
theorem stepRunsFrontCommand : Obligations.StepRunsFrontCommand := fun _ _ _ => rfl

/-! ## The state after reset -/

/-- Settles O3: each value by the definition of the state after reset. -/
theorem resetLeavesTheStatedValues : Obligations.ResetLeavesTheStatedValues := by
  have hdirty : ∀ m ∈ State.reset.store.dirty, m = false := fun _ hm => (List.mem_replicate.mp hm).2
  exact ⟨rfl, rfl, rfl, rfl, rfl, rfl, rfl, rfl, rfl, rfl, rfl, rfl, rfl, rfl, rfl, rfl, rfl, rfl, rfl, rfl, rfl, rfl, rfl,
    rfl, rfl, rfl, rfl, rfl, rfl, rfl, rfl, hdirty, rfl, rfl, rfl, rfl, rfl, rfl, rfl, rfl, rfl⟩

theorem State.reset_marks : MarksActive State.reset.orders.active State.reset.courses :=
  ⟨List.nodup_nil, (fun _ hc => nomatch hc), (fun _ hid => nomatch hid)⟩

theorem State.reset_lightFits : State.reset.LightFits where
  marks := reset_marks
  drives := ⟨rfl, rfl, rfl, rfl, rfl⟩
  gate _ hp := nomatch hp
  ready _ hp := nomatch hp
  pass hp := nomatch hp
  frame _ _ hp := nomatch hp
  slide _ hc := nomatch hc

theorem State.reset_accounts : State.reset.accounts.accounts = [] := by
  simp [State.reset, AccountTable.reset, AccountTable.accounts]

/-- Settles O4: no order, account, roll or label is there, nothing is lit, and every place is erased. -/
theorem resetMeetsTheInvariants : Obligations.ResetMeetsTheInvariants := by
  refine ⟨⟨by decide, by decide⟩, State.reset.markHolds_iff.mpr State.reset_marks, State.reset.accountsBalance_iff.mpr ?_,
    State.reset.lightSafe_iff.mpr State.reset_lightFits, State.reset.tablesKept_iff.mpr ?_,
    State.reset.storeKept_iff.mpr ?_⟩
  · exact State.Balanced.of_no_orders rfl (by simp [State.reset_accounts]) (by simp [State.reset_accounts])
  · exact ⟨Nat.zero_le _, Nat.zero_le _, ⟨Nat.zero_le _, rfl⟩, fun _ => rfl⟩
  · exact ⟨settingsStore_reset_formed, rfl, rfl⟩

/-! ## The lamps -/

theorem Notice.exists_number {i : Nat} (h : i < 14) : ∃ n : Notice, n.number = i := by
  interval_cases i
  exacts [⟨.orderFinished, rfl⟩, ⟨.orderPaused, rfl⟩, ⟨.rollEnd, rfl⟩, ⟨.magazine, rfl⟩, ⟨.fogged, rfl⟩, ⟨.slide, rfl⟩,
    ⟨.lampFault, rfl⟩, ⟨.meteringDone, rfl⟩, ⟨.labelsDone, rfl⟩, ⟨.printer, rfl⟩, ⟨.accountLow, rfl⟩, ⟨.store, rfl⟩,
    ⟨.startRefused, rfl⟩, ⟨.rollReady, rfl⟩]

/-- Two sets share a kind exactly when their intersection is not empty, the top bits of one being 0. -/
theorem NoticeUnit.shared_ne_zero_iff {n : NoticeUnit} (h : n.pending.toNat < 16384) :
    n.shared ≠ 0 ↔ ∃ k : Notice, hasNotice n.pending k = true ∧ hasNotice n.enabled k = true := by
  constructor
  · intro hne
    by_contra hnone
    refine hne (BitVec.eq_of_getLsbD_eq fun i _ => ?_)
    rw [shared, BitVec.getLsbD_and, show BitVec.getLsbD (0 : NoticeSet) i = false from BitVec.getLsbD_zero,
      Bool.and_eq_false_imp]
    intro hpending
    have hlt : i < 14 := by
      by_contra hge
      have hzero : n.pending.toNat.testBit i = false :=
        Nat.testBit_lt_two_pow (h.trans_le (Nat.pow_le_pow_right (by decide) (not_lt.mp hge) : 2 ^ 14 ≤ 2 ^ i))
      rw [← BitVec.testBit_toNat, hzero] at hpending
      cases hpending
    obtain ⟨k, rfl⟩ := Notice.exists_number hlt
    exact Bool.eq_false_iff.mpr fun henabled => hnone ⟨k, hpending, henabled⟩
  · rintro ⟨k, hpending, henabled⟩ hzero
    have hbit : n.shared.getLsbD k.number = true := by
      rw [shared, BitVec.getLsbD_and]
      exact Bool.and_eq_true_iff.mpr ⟨hpending, henabled⟩
    simp [hzero] at hbit

theorem State.readyLamp_iff (s : State) :
    s.readyLamp = true ↔ s.transport.state = .ready ∧ s.calibration.refCal ≠ 0 ∧ s.orders.active = none := by
  simp [readyLamp, StandCalibration.calibrated, and_assoc]

theorem State.busyLamp_iff (s : State) :
    s.busyLamp = true ↔ ∃ o ∈ s.orders.table, o.state = .metering ∨ o.state = .exposing := by simp [busyLamp]

/-- Where the mark holds, an order in METERING or EXPOSING is the active order. -/
theorem State.busyLamp_iff_active {s : State} (h : s.markHolds) :
    s.busyLamp = true ↔ ∃ o, s.activeOrder = some o ∧ (o.state = .metering ∨ o.state = .exposing) := by
  rw [busyLamp_iff]
  constructor
  · rintro ⟨o, ho, hstate⟩
    exact ⟨o, activeOrder_of_isActive h ho (by rcases hstate with hst | hst <;> rw [hst] <;> rfl), hstate⟩
  · rintro ⟨o, ho, hstate⟩
    exact ⟨o, (activeOrder_eq_some ho).1, hstate⟩

/-- Settles O20: ATTN by the bits of the two sets, READY and BUSY by the table, which the mark makes exclusive. -/
theorem lampsFollowTheState : Obligations.LampsFollowTheState := by
  intro s
  refine ⟨fun hclear => ?_, rfl, s.readyLamp_iff, s.busyLamp_iff, fun h => ⟨State.busyLamp_iff_active h, ?_⟩⟩
  · rw [← NoticeUnit.shared_ne_zero_iff hclear.1]
    simp [State.attnLow]
  · rintro ⟨hready, hbusy⟩
    obtain ⟨o, ho, -⟩ := (State.busyLamp_iff_active h).mp hbusy
    have hnone := (s.readyLamp_iff.mp hready).2.2
    rw [(State.activeOrder_eq_some ho).2.1] at hnone
    cases hnone

end Sys2Proof.Machine
end

section
/-! PROOFS. From the converter to the plan entry (R27 to R30, R48 to R59), and Read Metering (R33, 12.5). -/

namespace Sys2Proof.Machine

/-! ## Readings, averages and the lamp test -/

/-- A reading is the quotient by VREF, cut at 1023 (R27). -/
theorem readingOf_bounds {c : Conversion} (h : 0 < c.vref) :
    readingOf c ≤ 1023 ∧ (1023 * c.vref ≤ 1024 * c.voltage → readingOf c = 1023) ∧
      (1024 * c.voltage < 1023 * c.vref →
        readingOf c * c.vref ≤ 1024 * c.voltage ∧ 1024 * c.voltage < (readingOf c + 1) * c.vref) := by
  unfold readingOf
  by_cases hfull : 1023 * c.vref ≤ 1024 * c.voltage
  · simp [hfull, hfull.not_gt]
  · have hquotient : 1024 * c.voltage / c.vref < 1023 := Nat.div_lt_of_lt_mul (by rw [mul_comm]; omega)
    rw [if_neg (by omega)]
    refine ⟨hquotient.le, fun h => absurd h hfull, fun _ => ⟨Nat.div_mul_le_self _ _, ?_⟩⟩
    exact Nat.lt_mul_of_div_lt (Nat.lt_succ_self _) h

theorem lampFailing_iff (cal : StandCalibration) (ref : Nat) :
    lampFailing cal ref = true ↔ max 1 ref < 64 ∨ ageingTerm cal ref < -16 ∨ 16 < ageingTerm cal ref := by
  simp [lampFailing, usedAverage_eq_max, or_assoc]

/-! ## The plan entry -/

theorem planClipped_iff (f : FilmKind) (a : Averages) : planClipped f a = true ↔
    a.ref = 1023 ∨ (f.wr ≠ 0 ∧ a.red = 1023) ∨ (f.wg ≠ 0 ∧ a.green = 1023) ∨ (f.wb ≠ 0 ∧ a.blue = 1023) := by
  simp [planClipped, isClipped, or_assoc]

theorem planDark_iff (f : FilmKind) (a : Averages) : planDark f a = true ↔
    (f.wr ≠ 0 ∧ a.red = 0) ∨ (f.wg ≠ 0 ∧ a.green = 0) ∨ (f.wb ≠ 0 ∧ a.blue = 0) := by
  simp [planDark, isDark, or_assoc]

/-- The quotient rounded up (R59, R69). -/
theorem heatOf_bounds (ms k : Nat) : ms ≤ heatOf ms k * 2 ^ k ∧ heatOf ms k * 2 ^ k < ms + 2 ^ k := by
  have hpow : 0 < 2 ^ k := Nat.two_pow_pos k
  unfold heatOf
  have hle := Nat.div_mul_le_self (ms + (2 ^ k - 1)) (2 ^ k)
  have hlt := Nat.lt_div_mul_add (a := ms + (2 ^ k - 1)) hpow
  omega

/-- Settles O33: the quotients by their bounds, each flag by its clause, the entry field by field. -/
theorem readingsMakeEntries : Obligations.ReadingsMakeEntries := by
  refine ⟨fun c hc => readingOf_bounds (by simpa [Conversion.ok, Nat.pos_iff_ne_zero] using hc), fun _ _ _ _ => rfl, fun _ _ _ _ => rfl, lampFailing_iff,
    fun cal f a offset => ⟨rfl, rfl, rfl, planClipped_iff f a, planDark_iff f a, ?_⟩⟩
  exact heatOf_bounds _ _

/-! ## Read Metering -/

theorem Averages.flagByte_eq (a : Averages) : a.flagByte =
    (if a.ref = 0 then 1 else 0) + (if a.red = 0 then 2 else 0) + (if a.green = 0 then 4 else 0) +
      (if a.blue = 0 then 8 else 0) + (if a.ref = 1023 then 16 else 0) + (if a.red = 1023 then 32 else 0) +
      (if a.green = 1023 then 64 else 0) + (if a.blue = 1023 then 128 else 0) := by
  simp [flagByte, flagBit, isDark, isClipped]

/-- Read Metering at a free port: the record's report, and then the fresh mark is no. -/
theorem exec_readMetering_eq {s : State} (h : s.free) :
    exec (.readMetering []) s = .next
      (({ s with metering := { s.metering with fresh := false } }).answered 54 .done
        (s.metering.record.report s.metering.fresh)) :=
  congrArg Host.Outcome.next
    (State.arrive_eq_answered (t := s.frameDone.withMetering { s.metering with fresh := false }) h rfl rfl (Nat.zero_le _) rfl rfl)

/-- Settles O39: the four forms of the record, field by field. -/
theorem readMeteringShowsTheRecord : Obligations.ReadMeteringShowsTheRecord := by
  rintro s body averages hfree rfl hbody
  rw [exec_readMetering_eq hfree]
  refine congrArg (fun report => Host.Outcome.next (State.answered _ 54 .done report)) ?_
  simp only [← Averages.flagByte_eq] at hbody ⊢
  cases hrecord : s.metering.record with
  | none =>
    obtain rfl : body = [] := by simpa only [hrecord] using hbody
    simp [MeterRecord.report, flagField_eq]
  | order outcome id a ageing =>
    simp only [hrecord] at hbody
    subst hbody
    simp only [MeterRecord.report, flagField_eq, averagesReport]
    rfl
  | test outcome kind offset a ageing entry =>
    simp only [hrecord] at hbody
    subst hbody
    simp only [MeterRecord.report, flagField_eq, averagesReport]
    cases a <;> cases entry <;> rfl
  | calibration outcome steps a references offsets =>
    simp only [hrecord] at hbody
    subst hbody
    simp only [MeterRecord.report, flagField_eq, averagesReport]
    cases a <;> rfl

end Sys2Proof.Machine
end

section
/-! PROOFS. The stand line: the characters of a frame and the request they bring (R175 to R184), replies (R181, R182), and
a Restart of an idle stand (R185, R186, R196). -/

namespace Sys2Proof.Machine

/-! ## Frame assembly, character by character -/

/-- Frame assembly in a state, with its gap count afresh. -/
def State.assembling (s : State) (a : Assembly) : State := s.withLine { s.line with assembly := a, gap := 0 }

@[simp] theorem State.assembling_power (s : State) (a : Assembly) : (s.assembling a).power = s.power := rfl
@[simp] theorem State.assembling_assembly (s : State) (a : Assembly) : (s.assembling a).line.assembly = a := rfl
@[simp] theorem State.assembling_assembling (s : State) (a b : Assembly) : (s.assembling a).assembling b = s.assembling b :=
  rfl

theorem State.listening_iff (s : State) : s.listening = true ↔ s.power.phase = .listening := by simp [listening]

theorem addressStation_toNat (bits : Byte) : (addressStation bits).toNat = bits.toNat % 16 := by
  simp [addressStation]

theorem addressFromStand_iff (bits : Byte) : addressFromStand bits = true ↔ 128 ≤ bits.toNat := by
  unfold addressFromStand
  rw [← BitVec.testBit_toNat, Nat.testBit_eq_decide_div_mod_eq]
  simp
  omega

/-- What an address character leaves of frame assembly (R175, R176). -/
theorem exec_addressCharacter (bits : Byte) (s : State) :
    exec (.addressCharacter bits) s = .next
      (if s.power.phase ≠ .listening ∨ 128 ≤ bits.toNat then s
       else if bits.toNat % 16 = 0 then s.assembling (.expectLen true)
       else if bits.toNat % 16 = s.line.station.toNat then s.assembling (.expectLen false)
       else s.assembling .unaddressed) := by
  have hstation : ∀ x : BitVec 4, addressStation bits = x ↔ bits.toNat % 16 = x.toNat := fun x => by
    rw [← addressStation_toNat, BitVec.toNat_inj]
  have hnone : addressStation bits = 0 ↔ bits.toNat % 16 = 0 := hstation 0
  have hexec : exec (.addressCharacter bits) s = .next (if s.listening then s.withLine (s.line.takeAddress bits) else s) := rfl
  rw [hexec]
  refine congrArg Host.Outcome.next ?_
  by_cases hlistening : s.power.phase = .listening
  · simp only [(s.listening_iff).mpr hlistening, if_true, LinePort.takeAddress, addressFromStand_iff, hnone, hstation,
      hlistening, ne_eq, not_true, false_or]
    split_ifs <;> rfl
  · simp [State.listening, hlistening]

/-- What a data character leaves of frame assembly (R176, R177). -/
theorem exec_dataCharacter {s : State} (h : s.power.phase = .listening) (b : Byte) :
    exec (.dataCharacter b) s = .next (s.takeData b) := by
  have hexec : exec (.dataCharacter b) s = .next (if s.listening then s.takeData b else s) := rfl
  rw [hexec, if_pos ((s.listening_iff).mpr h)]

section
variable {s : State} (b : Byte)

theorem State.takeData_unaddressed (h : s.line.assembly = .unaddressed) : s.takeData b = s := by simp [takeData, h]

theorem State.takeData_expectLen {toAll : Bool} (h : s.line.assembly = .expectLen toAll) :
    s.takeData b = s.assembling
      (if 1 ≤ b.toNat ∧ b.toNat ≤ 64 then .collecting toAll b.toNat [] b else .unaddressed) := by
  have hzero : b = 0 ↔ b.toNat = 0 := by rw [← BitVec.toNat_inj]; rfl
  simp only [takeData, h, hzero]
  by_cases hlen : 1 ≤ b.toNat ∧ b.toNat ≤ 64
  · rw [if_neg (by omega), if_pos hlen]
    rfl
  · rw [if_pos (by omega), if_neg hlen]
    rfl

theorem State.takeData_collecting {toAll : Bool} {len : Nat} {bytes : List Byte} {sum : Byte}
    (h : s.line.assembly = .collecting toAll len bytes sum) :
    s.takeData b = s.assembling
      (if bytes.length + 1 = len then .expectCheck toAll (bytes ++ [b]) (sum + b)
       else .collecting toAll len (bytes ++ [b]) (sum + b)) := by
  simp [takeData, h, assembling]

theorem State.takeData_expectCheck {toAll : Bool} {bytes : List Byte} {sum : Byte}
    (h : s.line.assembly = .expectCheck toAll bytes sum) :
    s.takeData b = if sum + b = 0 then s.dropFrame.completeFrame toAll bytes else s.dropFrame := by simp [takeData, h]

end

/-- A bad character and the end of the gap count discard a frame in assembly (R178). -/
theorem exec_dropFrame {s : State} (h : s.power.phase = .listening) :
    exec .badCharacter s = .next s.dropFrame ∧ exec .gapTimeout s = .next s.dropFrame := by
  have hexec : Host.Outcome.next (if s.listening then s.dropFrame else s) =
      (Host.Outcome.next s.dropFrame : Host.Outcome State Fault Refusal) := by rw [if_pos ((s.listening_iff).mpr h)]
  exact ⟨hexec, hexec⟩

/-- Settles O13: each state of assembly by what a character does in it. -/
theorem charactersAreAssembled : Obligations.CharactersAreAssembled := by
  refine ⟨exec_addressCharacter, fun b s hlistening => ?_⟩
  rw [exec_dataCharacter hlistening]
  refine ⟨fun h => ?_, fun toAll h => ?_, fun toAll len bytes sum h => ?_, fun toAll bytes sum h hsum => ?_,
    fun _ => exec_dropFrame hlistening⟩
  · rw [State.takeData_unaddressed b h]
  · rw [State.takeData_expectLen b h]; rfl
  · rw [State.takeData_collecting b h]; rfl
  · rw [State.takeData_expectCheck b h, if_neg hsum]; rfl

/-! ## Whole frames -/

/-- Commands taken after others. -/
theorem runCommands_append {first second : List Instr} {s t : State} (h : runCommands first s = .next t) :
    runCommands (first ++ second) s = runCommands second t := by
  induction first generalizing s with
  | nil => cases h; rfl
  | cons c rest ih =>
    rw [List.cons_append, runCommands]
    rw [runCommands] at h
    cases hexec : exec c s with
    | next u =>
      rw [hexec] at h
      exact ih h
    | fault f => rw [hexec] at h; cases h
    | refused r => rw [hexec] at h; cases h

theorem runCommands_cons {c : Instr} {rest : List Instr} {s t : State} (h : exec c s = .next t) :
    runCommands (c :: rest) s = runCommands rest t := by rw [runCommands, h]

/-- The bytes of a frame are collected up to the last of LEN bytes (R177). -/
theorem runCommands_collecting (toAll : Bool) (bytes acc : List Byte) (sum : Byte) {s : State}
    (hlistening : s.power.phase = .listening) (hsome : bytes ≠ []) :
    runCommands (bytes.map Instr.dataCharacter) (s.assembling (.collecting toAll (acc.length + bytes.length) acc sum)) =
      .next (s.assembling (.expectCheck toAll (acc ++ bytes) (sum + byteSum bytes))) := by
  induction bytes generalizing acc sum with
  | nil => exact absurd rfl hsome
  | cons b rest ih =>
    have hsum : sum + byteSum (b :: rest) = sum + b + byteSum rest := (BitVec.add_assoc _ _ _).symm
    have hexec := (exec_dataCharacter (s := s.assembling (.collecting toAll (acc.length + (b :: rest).length) acc sum))
      hlistening b).trans (congrArg Host.Outcome.next (State.takeData_collecting b rfl))
    rw [List.map_cons, runCommands_cons hexec, State.assembling_assembling, hsum]
    cases rest with
    | nil => simp [runCommands, byteSum]
    | cons c more =>
      rw [if_neg (by simp)]
      have ih := ih (acc ++ [b]) (sum + b) (by simp)
      simpa [Nat.add_assoc, Nat.add_comm 1] using ih

/-- A whole frame to a station that the port takes it for is complete with its KIND and its body (R177, 12.1). -/
theorem runCommands_requestFrame {s : State} (hlistening : s.power.phase = .listening) (toAll : Bool)
    (station : BitVec 4) (kind : Nat) {body : List Byte} (hfits : body.length ≤ 63)
    (haddress : exec (.addressCharacter (BitVec.ofNat 8 station.toNat)) s = .next (s.assembling (.expectLen toAll))) :
    runCommands (requestFrame station kind body) s =
      .next (s.dropFrame.completeFrame toAll (BitVec.ofNat 8 kind :: body)) := by
  set len : Byte := BitVec.ofNat 8 (body.length + 1) with hlen
  have hlenNat : len.toNat = body.length + 1 := by
    rw [hlen, BitVec.toNat_ofNat, Nat.mod_eq_of_lt (by omega)]
  have hframe : requestFrame station kind body = .addressCharacter (BitVec.ofNat 8 station.toNat) ::
      .dataCharacter len :: ((BitVec.ofNat 8 kind :: body).map Instr.dataCharacter ++
        [.dataCharacter (0 - byteSum (len :: BitVec.ofNat 8 kind :: body))]) := by
    simp [requestFrame, withCheck, byteField, hlen]
  have hfirst : exec (.dataCharacter len) (s.assembling (.expectLen toAll)) =
      .next (s.assembling (.collecting toAll (([] : List Byte).length + (BitVec.ofNat 8 kind :: body).length) [] len)) := by
    rw [exec_dataCharacter (s := s.assembling _) hlistening, State.takeData_expectLen len rfl, if_pos (by omega), hlenNat]
    simp
  have hlast : exec (.dataCharacter (0 - byteSum (len :: BitVec.ofNat 8 kind :: body)))
      (s.assembling (.expectCheck toAll ([] ++ (BitVec.ofNat 8 kind :: body))
        (len + byteSum (BitVec.ofNat 8 kind :: body)))) =
      .next (s.dropFrame.completeFrame toAll (BitVec.ofNat 8 kind :: body)) := by
    rw [exec_dataCharacter (s := s.assembling _) hlistening, State.takeData_expectCheck _ rfl, if_pos]
    · rfl
    · have hsum : byteSum (len :: BitVec.ofNat 8 kind :: body) = len + byteSum (BitVec.ofNat 8 kind :: body) := rfl
      rw [hsum, BitVec.add_comm, BitVec.sub_add_cancel]
  rw [hframe, runCommands_cons haddress, runCommands_cons hfirst,
    runCommands_append (runCommands_collecting toAll _ [] len hlistening (by simp)), runCommands_cons hlast]
  rfl

/-- An address character of 0 to the port's station (R175, R176). -/
theorem exec_address_of_station {s : State} (hlistening : s.power.phase = .listening) {station : BitVec 4}
    (hstation : station = 0 ∨ station = s.line.station) :
    exec (.addressCharacter (BitVec.ofNat 8 station.toNat)) s =
      .next (s.assembling (.expectLen (decide (station = 0)))) := by
  have hlt := station.isLt
  have hzero : station = 0 ↔ station.toNat = 0 := by rw [← BitVec.toNat_inj]; rfl
  have hbits : (BitVec.ofNat 8 station.toNat).toNat = station.toNat := by
    rw [BitVec.toNat_ofNat, Nat.mod_eq_of_lt (by omega)]
  rw [exec_addressCharacter, hbits, Nat.mod_eq_of_lt hlt, if_neg (by simp [hlistening]; omega)]
  by_cases hnone : station = 0
  · simp [hnone]
  · obtain rfl := hstation.resolve_left hnone
    rw [if_neg (mt hzero.mpr hnone), if_pos rfl, decide_eq_false hnone]

/-! ## Request rows -/

/-- The row of a request kind is the arrival of its frame (log 4). -/
theorem exec_of_requestCommand {kind : Nat} {body : List Byte} {c : Instr} (h : requestCommand kind body = some c)
    (s : State) : isRequestKind kind = true ∧ kind < 256 ∧ exec c s = .next (s.arrive kind body) := by
  unfold requestCommand at h
  split at h
  case h_33 => cases h
  all_goals
    cases h
    exact ⟨rfl, by decide, rfl⟩

/-- A kind without a row is no request kind (R184). -/
theorem isRequestKind_of_none {kind : Nat} {body : List Byte} (h : requestCommand kind body = none) :
    isRequestKind kind = false := by
  unfold requestCommand at h
  split at h
  case h_33 =>
    simp_all [isRequestKind, fixedLength, hasImpliedLength, kindStatus, kindRestart, kindStop, kindStart, kindRewind,
      kindReadStandCalibration, kindCalibrateLamp, kindReadMetering, kindLabelStatus, kindResumePrinter, kindReadRates,
      kindReadFilmKind, kindSetNoticeEnable, kindClearNoticeEnable, kindClearNotices, kindCancelOrder, kindOrderReport,
      kindRetireOrder, kindCloseRoll, kindMeterTest, kindAccountReport, kindCloseAccount, kindResetPeriod,
      kindDeclareRoll, kindRollReport, kindSetFilmKind, kindSetAccount, kindSetStandCalibration, kindSetRates,
      kindSetLibraryMark, kindSubmitOrder, kindKeepReport]
  all_goals cases h

/-- A listening port with a station delivers a whole frame (R174, R179). -/
theorem State.arrive_eq_deliver {s : State} (hlistening : s.power.phase = .listening) (hstation : s.line.station ≠ 0)
    (kind : Nat) {body : List Byte} (hfits : body.length ≤ 63) :
    s.arrive kind body = s.dropFrame.deliver ⟨kind, body⟩ := by
  have hopen : (!s.listening || decide (s.line.station = 0)) = false := by simpa [listening, hlistening] using hstation
  rw [arrive, hopen, if_neg Bool.false_ne_true, if_neg (by simp [Config.maxBody, hfits])]

/-- The characters of an addressed frame deliver it (R177, R179). -/
theorem runCommands_addressed {s : State} (hlistening : s.power.phase = .listening) (hstation : s.line.station ≠ 0)
    {kind : Nat} (hkind : kind < 256) {body : List Byte} (hfits : body.length ≤ 63) :
    runCommands (requestFrame s.line.station kind body) s = .next (s.dropFrame.deliver ⟨kind, body⟩) := by
  have haddress := exec_address_of_station hlistening (.inr rfl)
  rw [decide_eq_false hstation] at haddress
  rw [runCommands_requestFrame hlistening false s.line.station kind hfits haddress]
  simp [State.completeFrame, Nat.mod_eq_of_lt hkind]

/-- Settles O11: the characters bring KIND and the body to the delivery the row begins with. -/
theorem frameCharactersAreTheRequest : Obligations.FrameCharactersAreTheRequest := by
  intro kind body c s hcommand hfits hlistening hstation
  obtain ⟨-, hkind, hexec⟩ := exec_of_requestCommand hcommand s
  refine ⟨s.dropFrame.deliver ⟨kind, body⟩, ?_, runCommands_addressed hlistening hstation hkind hfits⟩
  rw [hexec, State.arrive_eq_deliver hlistening hstation kind hfits]

/-- Settles O12: a frame to all ends in the taking of a broadcast of its KIND and body. -/
theorem broadcastFrames : Obligations.BroadcastFrames := by
  intro kind body s hlistening hkind hfits
  have hrun := runCommands_requestFrame hlistening true 0 kind hfits (exec_address_of_station hlistening (.inl rfl))
  have hcomplete : s.dropFrame.completeFrame true (BitVec.ofNat 8 kind :: body) = s.dropFrame.takeBroadcast kind body := by
    simp [State.completeFrame, Nat.mod_eq_of_lt hkind]
  rw [hcomplete] at hrun
  have hbroadcast : ∀ k, Host.Outcome.next (if s.listening then s.dropFrame.takeBroadcast k [] else s) =
      (Host.Outcome.next (s.dropFrame.takeBroadcast k []) : Host.Outcome State Fault Refusal) := fun k => by
    rw [if_pos ((s.listening_iff).mpr hlistening)]
  refine ⟨_, hrun, ?_, ?_, fun hstop hrestart => ?_⟩
  · rintro rfl rfl
    exact hbroadcast 6
  · rintro rfl rfl
    exact hbroadcast 5
  · rw [show s.dropFrame.takeBroadcast kind body = s.dropFrame from (if_neg hstop).trans (if_neg hrestart)]
    rfl

/-! ## Requests that do not enter service, and refusals by form -/

theorem State.deliver_of_idle {s : State} (h : s.line.inService = none) (r : Request) : s.deliver r = s.takeRequest r := by
  simp [deliver, h]

/-- A busy port holds one request and discards the others (R179). -/
theorem State.deliver_of_busy {s : State} {r : Service} (h : s.line.inService = some r) (q : Request) :
    s.dropFrame.deliver q = { s with line := { s.line with
      assembly := .unaddressed, gap := 0, held := s.line.held.or (some q) } } := by
  cases hheld : s.line.held <;> simp [deliver, dropFrame, withLine, h, hheld]

/-- A request refused for its form leaves only its answer at the port (R184). -/
theorem State.takeRequest_of_refused {s : State} {q : Request} {result : Result}
    (h : serve q s = s.refuse result) : s.takeRequest q = s.withLine { s.line with
      inService := some ⟨q.kind, result, []⟩, transmitter := .waiting, replyWait := 0 } := by
  simp [takeRequest, h, refuse, Reply.refusal]

theorem serve_unknownKind {q : Request} (h : isRequestKind q.kind = false) (s : State) :
    serve q s = s.refuse .unknownKind := by simp [serve, h]

theorem serve_badLength {q : Request} (hkind : isRequestKind q.kind = true) (h : lengthOk q.kind q.body = false)
    (s : State) : serve q s = s.refuse .badLength := by simp [serve, hkind, h]

/-- Settles O14: a busy port by its hold, a free one by the two checks of the form of a request. -/
theorem requestsAreHeldOrRefused : Obligations.RequestsAreHeldOrRefused := by
  refine ⟨fun kind body c s r hcommand hfits hlistening hstation hservice => ?_,
    fun kind body c s hcommand hfits hfree hlength => ?_, fun kind body s hnone hkind hfits => ⟨fun hfree => ?_,
      fun r hlistening hstation hservice => ?_⟩⟩
  · rw [(exec_of_requestCommand hcommand s).2.2, State.arrive_eq_deliver hlistening hstation kind hfits,
      State.deliver_of_busy hservice]
    cases s.line.held <;> rfl
  · obtain ⟨hknown, -, hexec⟩ := exec_of_requestCommand hcommand s
    rw [hexec, State.arrive_of_free hfree kind hfits,
      State.takeRequest_of_refused (serve_badLength (q := ⟨kind, body⟩) hknown hlength s.frameDone)]
    rfl
  · obtain ⟨hlistening, hstation, hservice⟩ := hfree
    rw [runCommands_addressed hlistening hstation hkind hfits, State.deliver_of_idle (s := s.dropFrame) hservice,
      State.takeRequest_of_refused (serve_unknownKind (q := ⟨kind, body⟩) (isRequestKind_of_none hnone) s.dropFrame)]
    rfl
  · rw [runCommands_addressed hlistening hstation hkind hfits, State.deliver_of_busy hservice]
    cases s.line.held <;> rfl

/-! ## Replies -/

theorem byteSum_toNat (b : List Byte) : (byteSum b).toNat = (b.map BitVec.toNat).sum % 256 := by
  induction b with
  | nil => rfl
  | cons x rest ih =>
    have hsum : byteSum (x :: rest) = x + byteSum rest := rfl
    rw [hsum, BitVec.toNat_add, ih, List.map_cons, List.sum_cons]
    simp

@[simp] theorem dataCharacterOf_toNat (b : Byte) : (dataCharacterOf b).toNat = b.toNat := by
  have hlt := b.isLt
  rw [dataCharacterOf, BitVec.toNat_ofNat, Nat.mod_eq_of_lt (by omega)]

theorem Result.code_lt (r : Result) : r.code < 256 := by cases r <;> decide

/-- Settles O15: the characters by the bytes they send, whose sum the check byte brings to 0. -/
theorem replyBeginSendsTheReply : Obligations.ReplyBeginSendsTheReply := by
  intro s r hlistening hwaiting hservice hfits
  have hstation := s.line.station.isLt
  set bytes : List Byte := byteField (r.body.length + 2) ++ byteField (r.kind + 128) ++ byteField r.result.code ++ r.body
    with hbytes
  have hchars : replyCharacters s.line.station r =
      replyAddress s.line.station :: (withCheck 0 bytes).map dataCharacterOf := rfl
  have hnats : (replyCharacters s.line.station r).map BitVec.toNat =
      (384 + s.line.station.toNat) :: (withCheck 0 bytes).map BitVec.toNat := by
    rw [hchars, List.map_cons, List.map_map]
    congr 1
    · rw [replyAddress, BitVec.toNat_ofNat, Nat.mod_eq_of_lt (by omega)]
    · exact List.map_congr_left fun b _ => dataCharacterOf_toNat b
  refine ⟨replyCharacters s.line.station r, ?_, ?_, ?_, ?_, ?_⟩
  · have hexec : exec .replyBegin s = .next (if s.listening then s.beginReply else s) := rfl
    rw [hexec, if_pos ((s.listening_iff).mpr hlistening)]
    simp [State.beginReply, hwaiting, hservice, State.withLine]
  · simp [hchars, hbytes]
    omega
  · rw [hnats]
    simp [hbytes, withCheck, byteField]
    exact ⟨by omega, r.result.code_lt⟩
  · rw [hnats, List.drop_one, List.tail_cons, ← byteSum_toNat, byteSum_withCheck]
    rfl
  · intro c hc
    obtain ⟨b, -, rfl⟩ := List.mem_map.mp (show c ∈ (withCheck 0 bytes).map dataCharacterOf from hc)
    exact (dataCharacterOf_toNat b).symm ▸ b.isLt

/-! ## A Restart of an idle stand -/

/-- With no active order, nothing lit and nothing to print, a Restart clears the pending set alone (R196). -/
theorem State.restartBlocks_idle {s : State} (hactive : s.orders.active = none) (hpurpose : s.exposure.purpose = none)
    (hprinter : s.labels.printer = .idle) (hqueue : s.labels.queue = []) (hstock : s.labels.stockHigh = true)
    (hfault : s.labels.faultHigh = true) : s.restartBlocks = { s with
      notices := { s.notices with pending := 0 }
      labels := { s.labels with wait := 0, dataLines := 0, strobed := false } } := by
  generalize hu : s.withNotices { s.notices with pending := 0 } = u
  have hcut : u.cutShort .restart false true = u := by
    have hnone : u.activeOrder = none := by simp [State.activeOrder, ← hu, hactive]
    simp [State.cutShort, hnone]
  have hmetering : u.restartMetering = u := by simp [State.restartMetering, ← hu, hpurpose]
  have hlabels : u.labels.enter u.labels.fromLines = { s.labels with wait := 0, dataLines := 0, strobed := false } := by
    simp [← hu, LabelUnit.enter, LabelUnit.fromLines, hstock, hfault, hprinter]
  have hprinting : u.restartPrinter = u.withLabels { s.labels with wait := 0, dataLines := 0, strobed := false } := by
    rw [State.restartPrinter, hlabels]
    simp [State.beginPrinting, hqueue]
  rw [State.restartBlocks, hu, hcut, hmetering, hprinting, ← hu]
  rfl

/-- Settles O17: at an idle stand nothing is cut short, abandoned or printed again. -/
theorem restartOfAnIdleStand : Obligations.RestartOfAnIdleStand := by
  refine ⟨fun s hfree => congrArg Host.Outcome.next
    (State.arrive_eq_answered (t := s.frameDone) hfree rfl rfl (Nat.zero_le _) rfl rfl), ?_⟩
  intro s cs body hlistening hactive hpurpose hprinter hqueue hstock hfault
  have hidle : ∀ l : LinePort, (s.withLine l).restartBlocks = { s with
      line := l, notices := { s.notices with pending := 0 }
      labels := { s.labels with wait := 0, dataLines := 0, strobed := false } } := fun l =>
    State.restartBlocks_idle hactive hpurpose hprinter hqueue hstock hfault
  have hopen := (s.listening_iff).mpr hlistening
  refine ⟨?_, fun hsending hservice => ?_⟩
  · have hexec : exec .broadcastRestart s = .next (if s.listening then
        (s.withLine { s.line with assembly := .unaddressed, gap := 0, held := none }).restartBlocks else s) := rfl
    rw [hexec, if_pos hopen, hidle]
  · have hexec : exec .replyEnd s = .next (if s.listening then s.endReply else s) := rfl
    have hend : s.endReply = s.takeRestart := by simp [State.endReply, hsending, hservice, kindRestart]
    rw [hexec, if_pos hopen, hend, State.takeRestart, hidle]

end Sys2Proof.Machine
end

section
/-! PROOFS. No owner of a request reads the Line Port: what it does with another port in place is what it did, with that
port in place (R180). And so the end of a reply (R179, R182). -/

namespace Sys2Proof.Machine

section
variable (s : State) (l : LinePort)

/-! ## Operations of one block -/

@[simp] theorem State.withLine_withLine (m : LinePort) : (s.withLine l).withLine m = s.withLine m := rfl

theorem State.startWrite_withLine : (s.withLine l).startWrite = s.startWrite.withLine l := by
  unfold startWrite
  rw [show (s.withLine l).engineFree = s.engineFree from rfl, withLine_store]
  split <;> rfl

theorem State.markDirty_withLine (place : Nat) : (s.withLine l).markDirty place = (s.markDirty place).withLine l :=
  startWrite_withLine (s.withStore { s.store with dirty := s.store.dirty.set place true }) l

theorem State.markAccount_withLine (n : Nat) : (s.withLine l).markAccount n = (s.markAccount n).withLine l := by
  unfold markAccount
  rw [show (s.withLine l).slotOf n = s.slotOf n from rfl]
  cases s.slotOf n with
  | none => rfl
  | some slot => exact markDirty_withLine s l _

theorem State.noteLow_withLine (before after : Bool) :
    (s.withLine l).noteLow before after = (s.noteLow before after).withLine l := by
  unfold noteLow
  split <;> rfl

theorem State.changeAccount_withLine (n : Nat) (f : Account → Account) :
    (s.withLine l).changeAccount n f = (s.changeAccount n f).withLine l := by
  unfold changeAccount
  rw [show (s.withLine l).findAccount n = s.findAccount n from rfl]
  cases s.findAccount n with
  | none => rfl
  | some a =>
    dsimp only
    rw [← noteLow_withLine]
    refine congrArg (fun u : State => u.noteLow a.low (f a).low) ?_
    split
    · exact markAccount_withLine (s.mapAccount n f) l n
    · rfl

theorem State.moveHold_withLine (id : Nat) (part : HoldPart) (amount : Nat) (posted : Bool) :
    (s.withLine l).moveHold id part amount posted = (s.moveHold id part amount posted).withLine l := by
  unfold moveHold
  rw [show (s.withLine l).findOrder id = s.findOrder id from rfl]
  cases s.findOrder id with
  | none => rfl
  | some o => exact changeAccount_withLine (s.mapOrder id fun q => q.lowerHold part (min amount (o.hold part))) l _ _

theorem State.release_withLine (id : Nat) (part : HoldPart) (amount : Nat) :
    (s.withLine l).release id part amount = (s.release id part amount).withLine l := moveHold_withLine s l id part amount false

theorem State.oweFewerLabels_withLine (id n : Nat) :
    (s.withLine l).oweFewerLabels id n = (s.oweFewerLabels id n).withLine l := rfl

theorem State.giveUpLabel_withLine (id : Nat) : (s.withLine l).giveUpLabel id = (s.giveUpLabel id).withLine l := by
  unfold giveUpLabel
  rw [show (s.withLine l).findOrder id = s.findOrder id from rfl]
  cases s.findOrder id with
  | none => rfl
  | some o =>
    dsimp only
    split
    · rw [oweFewerLabels_withLine, release_withLine]
    · rfl

theorem State.finishOrder_withLine (id : Nat) (final : OrderState) :
    (s.withLine l).finishOrder id final = (s.finishOrder id final).withLine l := by
  unfold finishOrder
  rw [show (s.withLine l).findOrder id = s.findOrder id from rfl]
  cases s.findOrder id with
  | none => rfl
  | some o =>
    dsimp only
    rw [show (s.withLine l).mapOrder id (fun q => { q with state := final, cancelRequested := false }) =
      (s.mapOrder id fun q => { q with state := final, cancelRequested := false }).withLine l from rfl]
    split_ifs <;> simp_all [release_withLine, oweFewerLabels_withLine] <;> rfl

theorem State.mapRollInCamera_withLine (f : Roll → Roll) :
    (s.withLine l).mapRollInCamera f = (s.mapRollInCamera f).withLine l := by
  unfold mapRollInCamera
  rw [withLine_transport]
  split <;> rfl

theorem State.recordFrame_withLine (o : Order) (st : FrameState) (charge : Nat) :
    (s.withLine l).recordFrame o st charge = (s.recordFrame o st charge).withLine l := mapRollInCamera_withLine s l _

theorem State.requestAdvance_withLine (id : Nat) : (s.withLine l).requestAdvance id = (s.requestAdvance id).withLine l := by
  unfold requestAdvance
  rw [show (s.withLine l).atLastFrame = s.atLastFrame from rfl]
  split <;> rfl

theorem State.spoilFrame_withLine (advance : Bool) : (s.withLine l).spoilFrame advance = (s.spoilFrame advance).withLine l := by
  unfold spoilFrame
  rw [show (s.withLine l).activeOrder = s.activeOrder from rfl]
  cases s.activeOrder with
  | none => rfl
  | some o =>
    have hprogress : ∀ u : State, (u.withLine l).mapOrder o.id (fun p =>
        p.progress (s.transport.roll.getD 0) s.transport.currentFrame true) =
        (u.mapOrder o.id fun p => p.progress (s.transport.roll.getD 0) s.transport.currentFrame true).withLine l :=
      fun _ => rfl
    simp only [recordFrame_withLine, release_withLine, oweFewerLabels_withLine, withLine_transport]
    split_ifs <;> simp only [hprogress, requestAdvance_withLine]

theorem State.dropOrderLighting_withLine (advance : Bool) :
    (s.withLine l).dropOrderLighting advance = (s.dropOrderLighting advance).withLine l := by
  unfold dropOrderLighting
  rw [withLine_exposure]
  split
  · exact spoilFrame_withLine s.endLighting.meterIdle l advance
  all_goals rfl

theorem State.cutShort_withLine (reason : FinishReason) (spared advance : Bool) :
    (s.withLine l).cutShort reason spared advance = (s.cutShort reason spared advance).withLine l := by
  unfold cutShort
  rw [show (s.withLine l).activeOrder = s.activeOrder from rfl, dropOrderLighting_withLine]
  cases s.activeOrder with
  | none => rfl
  | some o =>
    simp only [finishOrder_withLine]
    split <;> rfl

theorem State.beginFrame_withLine (id : Nat) : (s.withLine l).beginFrame id = (s.beginFrame id).withLine l := by
  unfold beginFrame
  rw [show (s.withLine l).findOrder id = s.findOrder id from rfl]
  cases s.findOrder id with
  | none => rfl
  | some o =>
    simp only [finishOrder_withLine]
    rw [show (s.withLine l).heatAllows o.nextEntry.heat = s.heatAllows o.nextEntry.heat from rfl]
    split <;> rfl

theorem State.beginOrder_withLine (id : Nat) : (s.withLine l).beginOrder id = (s.beginOrder id).withLine l := by
  unfold beginOrder
  rw [show ((s.withLine l).withOrders { (s.withLine l).orders with active := some id }).mapOrder id
      (fun o => { o with state := .metering }) =
    ((s.withOrders { s.orders with active := some id }).mapOrder id fun o => { o with state := .metering }).withLine l
    from rfl]
  simp only [finishOrder_withLine]
  split <;> rename_i hheat
  · exact (if_pos hheat).symm ▸ rfl
  · exact (if_neg hheat).symm ▸ rfl

theorem State.beginPrinting_withLine : (s.withLine l).beginPrinting = s.beginPrinting.withLine l := by
  unfold beginPrinting
  rw [withLine_labels]
  split <;> rfl

theorem State.printerIdle_withLine : (s.withLine l).printerIdle = s.printerIdle.withLine l :=
  beginPrinting_withLine (s.withLabels (s.labels.enter .idle)) l

theorem State.queueLabels_withLine (entries : List LabelEntry) :
    (s.withLine l).queueLabels entries = (s.queueLabels entries).withLine l :=
  beginPrinting_withLine (s.withLabels { s.labels with queue := s.labels.queue ++ entries }) l

theorem State.markCancel_withLine (o : Order) : (s.withLine l).markCancel o = (s.markCancel o).withLine l := by
  unfold markCancel
  rw [withLine_exposure, withLine_transport]
  split
  · exact beginFrame_withLine ((s.mapOrder o.id fun p => { p with cancelRequested := true }).withExposure
      { s.exposure with frameWaits := false }) l o.id
  · rfl

theorem State.foldl_withLine {α : Type} {op : State → α → State} (hop : ∀ u x, op (u.withLine l) x = (op u x).withLine l)
    (xs : List α) : xs.foldl op (s.withLine l) = (xs.foldl op s).withLine l := by
  induction xs generalizing s with
  | nil => rfl
  | cons x rest ih => rw [List.foldl_cons, hop, ih, List.foldl_cons]

theorem State.resetSpent_withLine (numbers : List Nat) :
    (s.withLine l).resetSpent numbers = (s.resetSpent numbers).withLine l :=
  foldl_withLine s l (fun u n => changeAccount_withLine u l n _) numbers

theorem State.reportRejected_withLine (rejected : List (Nat × Frame)) :
    (s.withLine l).reportRejected rejected = (s.reportRejected rejected).withLine l :=
  foldl_withLine s l (fun u e => giveUpLabel_withLine u l e.2.order) rejected

/-! ## Requests -/

/-- The answer of a request and the state it leaves, with another port in place. -/
def Reply.onPort (r : Reply × State) : Reply × State := (r.1, r.2.withLine l)

/-- A check that does not read the port (R184). -/
theorem onPort_ite {c d : Prop} [Decidable c] [Decidable d] (hcd : c ↔ d) {a b a' b' : Reply × State}
    (ha : a = Reply.onPort l a') (hb : b = Reply.onPort l b') :
    (if c then a else b) = Reply.onPort l (if d then a' else b') := by
  subst ha hb
  by_cases hd : d
  · rw [if_pos (hcd.mpr hd), if_pos hd]
  · rw [if_neg (mt hcd.mp hd), if_neg hd]

/-- A request answered on a state that differs in its port alone. -/
theorem answer_withLine {t u : State} (h : t = u.withLine l) (body : List Byte) :
    t.answer body = Reply.onPort l (u.answer body) := h ▸ rfl

theorem accept_withLine {t u : State} (h : t = u.withLine l) (body : List Byte) :
    t.accept body = Reply.onPort l (u.accept body) := h ▸ rfl

theorem serveSubmitOrder_withLine (body : List Byte) :
    serveSubmitOrder body (s.withLine l) = Reply.onPort l (serveSubmitOrder body s) := by
  unfold serveSubmitOrder
  dsimp only
  refine onPort_ite l Iff.rfl rfl ?_
  rw [show (s.withLine l).admissionRefusal (readSubmit body) = s.admissionRefusal (readSubmit body) from rfl,
    State.withLine_accounts]
  split
  · rfl
  · rfl
  · refine onPort_ite l Iff.rfl rfl ?_
    generalize (readSubmit body).record _ = o
    have hadmitted : (((s.withLine l).placeHold o.account o.holds).appendOrder o).lockMark =
        (((s.placeHold o.account o.holds).appendOrder o).lockMark).withLine l := by
      rw [State.placeHold, State.changeAccount_withLine]
      rfl
    unfold State.admitOrder
    dsimp only
    rw [hadmitted]
    rfl

theorem serveCancelOrder_withLine (body : List Byte) :
    serveCancelOrder body (s.withLine l) = Reply.onPort l (serveCancelOrder body s) := by
  unfold serveCancelOrder
  rw [show (s.withLine l).findOrder (pairAt body 0) = s.findOrder (pairAt body 0) from rfl]
  cases s.findOrder (pairAt body 0) with
  | none => rfl
  | some o =>
    dsimp only
    split
    · rfl
    · rfl
    · rfl
    · exact answer_withLine l (State.finishOrder_withLine s l _ _) []
    · exact answer_withLine l (State.finishOrder_withLine s l _ _) []
    · refine answer_withLine l ?_ []
      rw [State.dropOrderLighting_withLine, State.finishOrder_withLine]
    · exact onPort_ite l Iff.rfl rfl (answer_withLine l (State.markCancel_withLine s l o) [])

theorem serveStart_withLine (body : List Byte) :
    serveStart body (s.withLine l) = Reply.onPort l (serveStart body s) := by
  unfold serveStart
  rw [show (s.withLine l).startDecision = s.startDecision from rfl]
  split
  · exact accept_withLine l (State.beginOrder_withLine s l _) []
  · rfl

theorem serveKeepReport_withLine (body : List Byte) :
    serveKeepReport body (s.withLine l) = Reply.onPort l (serveKeepReport body s) := by
  unfold serveKeepReport
  dsimp only
  refine onPort_ite l Iff.rfl rfl ?_
  rw [show (s.withLine l).findRoll (readKeep body).roll = s.findRoll (readKeep body).roll from rfl]
  cases s.findRoll (readKeep body).roll with
  | none => rfl
  | some r =>
    refine onPort_ite l Iff.rfl rfl (onPort_ite l Iff.rfl rfl (answer_withLine l ?_ _))
    refine Eq.trans ?_ (State.queueLabels_withLine (State.reportRejected _ _) l _)
    rw [← State.reportRejected_withLine]
    rfl

theorem serveCloseRoll_withLine (body : List Byte) :
    serveCloseRoll body (s.withLine l) = Reply.onPort l (serveCloseRoll body s) := by
  unfold serveCloseRoll
  rw [show (s.withLine l).findRoll (pairAt body 0) = s.findRoll (pairAt body 0) from rfl]
  cases s.findRoll (pairAt body 0) with
  | none => rfl
  | some r =>
    dsimp only
    split
    · rfl
    · refine answer_withLine l ?_ _
      rw [State.reportRejected_withLine]
      rfl
    · exact onPort_ite l Iff.rfl rfl rfl
    · rfl

theorem serveResumePrinter_withLine (body : List Byte) :
    serveResumePrinter body (s.withLine l) = Reply.onPort l (serveResumePrinter body s) := by
  unfold serveResumePrinter
  rw [State.withLine_labels, State.printerIdle_withLine]
  split
  · rfl
  · rfl
  · rfl
  all_goals exact onPort_ite l Iff.rfl rfl rfl

theorem serveSetAccount_withLine (body : List Byte) :
    serveSetAccount body (s.withLine l) = Reply.onPort l (serveSetAccount body s) := by
  have hstore : ∀ slot a wasLow, (s.withLine l).storeAccount slot a wasLow =
      Reply.onPort l (s.storeAccount slot a wasLow) := fun slot a wasLow => answer_withLine l (by
    rw [show (s.withLine l).withSlot slot (some a) = (s.withSlot slot (some a)).withLine l from rfl,
      State.markDirty_withLine, State.noteLow_withLine]) _
  unfold serveSetAccount
  dsimp only
  refine onPort_ite l Iff.rfl rfl ?_
  rw [show (s.withLine l).findAccount (accountFields body).number = s.findAccount (accountFields body).number from rfl,
    show (s.withLine l).slotOf (accountFields body).number = s.slotOf (accountFields body).number from rfl,
    State.withLine_accounts]
  split
  · exact onPort_ite l Iff.rfl rfl (hstore _ _ _)
  · split
    · rfl
    · exact hstore _ _ _

theorem serveCloseAccount_withLine (body : List Byte) :
    serveCloseAccount body (s.withLine l) = Reply.onPort l (serveCloseAccount body s) := by
  unfold serveCloseAccount
  dsimp only
  refine onPort_ite l Iff.rfl rfl ?_
  rw [show (s.withLine l).findAccount (pairAt body 0) = s.findAccount (pairAt body 0) from rfl,
    show (s.withLine l).slotOf (pairAt body 0) = s.slotOf (pairAt body 0) from rfl]
  split
  · exact onPort_ite l Iff.rfl rfl (answer_withLine l (State.markDirty_withLine (s.withSlot _ none) l _) _)
  · rfl

/-- The owners of the requests do not read the port. -/
theorem serveChecked_withLine (kind : Nat) (body : List Byte) :
    serveChecked kind body (s.withLine l) = Reply.onPort l (serveChecked kind body s) := by
  unfold serveChecked
  split
  · rfl
  · exact onPort_ite l Iff.rfl rfl rfl
  · exact onPort_ite l Iff.rfl rfl rfl
  · exact onPort_ite l Iff.rfl rfl rfl
  · rfl
  · exact answer_withLine l (State.cutShort_withLine s l _ _ _) []
  · exact onPort_ite l Iff.rfl rfl (onPort_ite l Iff.rfl rfl rfl)
  · exact serveSubmitOrder_withLine s l body
  · exact serveCancelOrder_withLine s l body
  · unfold serveOrderReport
    rw [show (s.withLine l).activeOrder = s.activeOrder from rfl,
      show (s.withLine l).findOrder (pairAt body 0) = s.findOrder (pairAt body 0) from rfl]
    dsimp only
    split <;> rfl
  · unfold serveRetireOrder
    rw [show (s.withLine l).findOrder (pairAt body 0) = s.findOrder (pairAt body 0) from rfl]
    split
    · rfl
    · exact onPort_ite l Iff.rfl rfl rfl
  · exact serveStart_withLine s l body
  · unfold serveDeclareRoll
    dsimp only
    refine onPort_ite l Iff.rfl rfl (onPort_ite l Iff.rfl rfl (onPort_ite l Iff.rfl rfl (onPort_ite l Iff.rfl rfl ?_)))
    rw [show (s.withLine l).declaredFrames (byteAt body 2) = s.declaredFrames (byteAt body 2) from rfl]
    split <;> rfl
  · exact onPort_ite l Iff.rfl rfl rfl
  · unfold serveRollReport
    dsimp only
    refine onPort_ite l Iff.rfl rfl ?_
    rw [show (s.withLine l).findRoll (pairAt body 0) = s.findRoll (pairAt body 0) from rfl]
    split <;> rfl
  · exact serveKeepReport_withLine s l body
  · exact serveCloseRoll_withLine s l body
  · refine onPort_ite l Iff.rfl rfl (onPort_ite l Iff.rfl rfl (answer_withLine l ?_ _))
    exact State.markDirty_withLine (s.withFilms _) l _
  · exact onPort_ite l Iff.rfl rfl rfl
  · refine onPort_ite l Iff.rfl rfl (onPort_ite l Iff.rfl rfl (onPort_ite l Iff.rfl rfl (answer_withLine l ?_ _)))
    exact State.markDirty_withLine (s.withCalibration _) l _
  · rfl
  · exact onPort_ite l Iff.rfl rfl (onPort_ite l Iff.rfl rfl (onPort_ite l Iff.rfl rfl rfl))
  · exact onPort_ite l Iff.rfl rfl (onPort_ite l Iff.rfl rfl (onPort_ite l Iff.rfl rfl (onPort_ite l Iff.rfl rfl
      (onPort_ite l Iff.rfl rfl (onPort_ite l Iff.rfl rfl (onPort_ite l Iff.rfl rfl rfl))))))
  · rfl
  · rfl
  · exact serveResumePrinter_withLine s l body
  · exact serveSetAccount_withLine s l body
  · unfold serveAccountReport
    dsimp only
    refine onPort_ite l Iff.rfl rfl (onPort_ite l Iff.rfl rfl ?_)
    rw [show (s.withLine l).findAccount (pairAt body 0) = s.findAccount (pairAt body 0) from rfl,
      show (s.withLine l).slotOf (pairAt body 0) = s.slotOf (pairAt body 0) from rfl]
    split <;> rfl
  · exact serveCloseAccount_withLine s l body
  · refine onPort_ite l Iff.rfl rfl (onPort_ite l Iff.rfl rfl (onPort_ite l Iff.rfl ?_ (onPort_ite l Iff.rfl rfl ?_)))
    · exact answer_withLine l (State.resetSpent_withLine s l _) _
    · exact answer_withLine l (State.resetSpent_withLine s l _) _
  · exact onPort_ite l Iff.rfl rfl (answer_withLine l (State.markDirty_withLine (s.withAccounts _) l _) _)
  · rfl
  · rfl

theorem serve_withLine (r : Request) : serve r (s.withLine l) = Reply.onPort l (serve r s) :=
  onPort_ite l Iff.rfl rfl (onPort_ite l Iff.rfl rfl (serveChecked_withLine s l r.kind r.body))

/-- A request taken on a port leaves the rest of the part as on another port (R180). -/
theorem State.takeRequest_withLine (r : Request) :
    (s.withLine l).takeRequest r = (s.takeRequest r).withLine { l with
      inService := (s.takeRequest r).line.inService, transmitter := .waiting, replyWait := 0 } := by
  simp [takeRequest, serve_withLine, Reply.onPort]

end

/-! ## The end of a reply -/

/-- Settles O16: the held request is taken on the port that its arrival would have found, but for the frame in assembly,
which no owner reads. -/
theorem replyEndTakesTheHeldRequest : Obligations.ReplyEndTakesTheHeldRequest := by
  intro s r cs hlistening hsending hservice hkind
  have hend : exec .replyEnd s = .next s.leaveService := by
    have hexec : exec .replyEnd s = .next (if s.listening then s.endReply else s) := rfl
    have hleave : s.endReply = s.leaveService := by
      simp only [State.endReply, hsending, hservice]
      exact if_neg hkind
    rw [hexec, if_pos ((s.listening_iff).mpr hlistening), hleave]
  rw [hend]
  refine ⟨fun hheld => ?_, fun kind body c hheld hcommand hfits hstation => ?_, fun h hheld hnone => ?_⟩
  · simp only [State.leaveService, hheld]
    rfl
  · generalize hfree : s.withLine { s.line with
      inService := none, held := none, transmitter := .idle, replyWait := 0 } = free
    have hport : free.line.assembly = s.line.assembly ∧ free.line.gap = s.line.gap := by subst hfree; exact ⟨rfl, rfl⟩
    have hleave : s.leaveService = free.takeRequest ⟨kind, body⟩ := by
      simp only [State.leaveService, hheld, hfree]
    have harrive : free.arrive kind body = free.frameDone.takeRequest ⟨kind, body⟩ :=
      State.arrive_of_free (by subst hfree; exact ⟨hlistening, hstation, rfl⟩) kind hfits
    have hsame := State.takeRequest_withLine free free.line ⟨kind, body⟩
    have hdone := State.takeRequest_withLine free { free.line with assembly := .unaddressed, gap := 0 } ⟨kind, body⟩
    refine ⟨free.arrive kind body, hfree ▸ (exec_of_requestCommand hcommand free).2.2, congrArg Host.Outcome.next ?_⟩
    rw [hleave, harrive, ← hport.1, ← hport.2]
    refine Eq.trans hsame ?_
    rw [show free.frameDone.takeRequest ⟨kind, body⟩ = _ from hdone]
    rfl
  · simp only [State.leaveService, hheld]
    rw [State.takeRequest_of_refused (serve_unknownKind (isRequestKind_of_none hnone) _)]
    rfl

end Sys2Proof.Machine
end

section
/-! PROOFS. Submit Order (R4, R5), and the Starts and Stops of orders (R6 to R9, R20). -/

namespace Sys2Proof.Machine

/-! ## Submit Order at its owner -/

section
variable {s : State} {body : List Byte} {f : SubmitFields}

theorem exec_submitOrder (body : List Byte) (s : State) : exec (.submitOrder body) s = .next (s.arrive 16 body) := rfl

/-- The ranges of R4, each by the values outside it. -/
theorem SubmitFields.not_inRange_iff (f : SubmitFields) : (!f.inRange) = true ↔
    f.id = 0 ∨ f.account = 0 ∨ 9999 < f.account ∨ 3 < f.filmKind ∨ f.catalogue.length = 0 ∨
      14 < f.catalogue.length ∨ 32 < f.title.length ∨ f.offsets.length = 0 ∨ 5 < f.offsets.length ∨
      (∃ offset ∈ f.offsets, offset < -24 ∨ 24 < offset) ∨ f.copies = 0 ∨ 3 < f.copies ∨ 1 < f.labelsCode := by
  have hoffsets : (f.offsets.all fun o => -24 ≤ o && o ≤ 24) = true ↔
      ¬ ∃ offset ∈ f.offsets, offset < -24 ∨ 24 < offset := by simp
  rw [Bool.not_eq_true', ← Bool.not_eq_true]
  simp only [inRange, Bool.and_eq_true, hoffsets, decide_eq_true_eq]
  unfold Config.maxAccount
  by_cases hout : ∃ offset ∈ f.offsets, offset < -24 ∨ 24 < offset
  · simp [hout]
  · simp only [hout, false_or, not_false_iff, and_true]
    omega

theorem State.exposedFrameNames_iff (s : State) (id : Nat) : s.exposedFrameNames id = true ↔
    ∃ r ∈ s.rolls, ∃ e ∈ r.frames, e.state = .exposed ∧ e.order = id := by
  simp [exposedFrameNames]

theorem State.findOrder_isSome_iff (s : State) (id : Nat) :
    (s.findOrder id).isSome = true ↔ ∃ o ∈ s.orders.table, o.id = id := by
  simp [findOrder, List.find?_isSome]

/-- The first check of R5 that fails, as the refusal names it. -/
theorem State.admissionRefusal_eq (s : State) (f : SubmitFields) : s.admissionRefusal f =
    if s.labels.mark = none then some .noMark
    else if s.accounts.rates = none then some .notReady
    else if (∃ o ∈ s.orders.table, o.id = f.id) ∨
        (∃ r ∈ s.rolls, ∃ e ∈ r.frames, e.state = .exposed ∧ e.order = f.id) then some .duplicate
    else if 16 ≤ s.orders.table.length then some .tableFull
    else if s.findAccount f.account = none then some .noSuch
    else if (s.findAccount f.account).any (fun a => a.suspended) = true then some .wrongState
    else if s.films.getD f.filmKind none = none then some .notReady
    else none := by
  simp only [admissionRefusal, Option.isNone_iff_eq_none, Bool.or_eq_true, findOrder_isSome_iff, exposedFrameNames_iff,
    ge_iff_le, Config.maxOrders]
  cases s.findAccount f.account with
  | none => simp
  | some a => simp

/-- A refusal of Submit Order changes nothing but the port. -/
theorem exec_submitOrder_refused (h : s.free) (hlength : submitLengthOk body = true) (hfits : body.length ≤ 63)
    {result : Result} (howner : serveSubmitOrder body s.frameDone = s.frameDone.refuse result) :
    exec (.submitOrder body) s = .next (s.answered 16 result []) :=
  congrArg Host.Outcome.next (State.arrive_eq_answered (t := s.frameDone) h rfl hlength hfits howner rfl)

/-- H of R145, as the insufficiency check adds it up. -/
theorem SubmitFields.record_holds (f : SubmitFields) (rates : RateCard) : (f.record rates).holds =
    rates.setup + f.offsets.length * f.copies * rates.frameRate f.filmKind +
      (if f.labelsCode = 1 then f.offsets.length * f.copies * rates.label else 0) := by
  simp [record, Order.holds]

theorem Account.low_iff (a : Account) : a.low = true ↔ a.available < a.warn := decide_eq_true_iff

/-- An account after a hold has been placed on it (R145). -/
def Account.raiseHeld (a : Account) (amount : Nat) : Account := { a with held := a.held + amount }

/-- A hold reaches its account alone, and raises ACCOUNT_LOW when the low mark goes from no to yes (R145, R152). -/
theorem State.placeHold_eq {a : Account} {n : Nat} (h : s.findAccount n = some a) (amount : Nat) :
    s.placeHold n amount = (s.mapAccount n fun b => b.raiseHeld amount).withNotices
      (if a.low = false ∧ (a.raiseHeld amount).low = true then s.notices.noting 1024 else s.notices) := by
  have hchange : s.placeHold n amount = s.changeAccount n fun b => b.raiseHeld amount := rfl
  rw [hchange, changeAccount]
  simp only [h]
  rw [if_neg (by simp [Account.raiseHeld]), noteLow_eq]
  rfl

theorem State.mapAccount_slots (s : State) (n : Nat) (f : Account → Account) :
    (s.mapAccount n f).accounts.slots = s.accounts.slots.map fun (slot : Option Account) => slot.map fun (b : Account) => if b.number = n then f b else b := by
  simp only [mapAccount, withAccounts_accounts]
  refine List.map_congr_left fun slot _ => ?_
  cases slot with
  | none => simp [slotHolds]
  | some b => by_cases hb : b.number = n <;> simp [slotHolds, hb]

theorem AccountTable.ext_slots {a b : AccountTable} (hrates : a.rates = b.rates) (hkey : a.key = b.key)
    (hslots : a.slots = b.slots) : a = b := by
  cases a
  cases b
  simp_all

/-- The state an admission leaves (R5). -/
theorem exec_submitOrder_admitted {rates : RateCard} {a : Account} {o : Order} (h : s.free)
    (hlength : submitLengthOk body = true) (hfits : body.length ≤ 63) (hrange : (readSubmit body).inRange = true)
    (hadmitted : s.admissionRefusal (readSubmit body) = none) (hrates : s.accounts.rates = some rates)
    (ho : (readSubmit body).record rates = o) (haccount : s.findAccount o.account = some a)
    (hcovered : o.holds ≤ a.available) :
    exec (.submitOrder body) s = .next
      (({ s with
          accounts := { s.accounts with slots := s.accounts.slots.map fun (slot : Option Account) => slot.map fun (b : Account) =>
            if b.number = o.account then b.raiseHeld o.holds else b }
          notices := if a.low = false ∧ (a.raiseHeld o.holds).low = true then s.notices.noting 1024 else s.notices
          orders := { s.orders with table := s.orders.table ++ [o] }
          labels := { s.labels with locked := true } }).answered 16 .done
        (quadField o.holds ++ quadField (a.raiseHeld o.holds).available)) := by
  have hadmitted : s.frameDone.admissionRefusal (readSubmit body) = none := hadmitted
  have hrates : s.frameDone.accounts.rates = some rates := hrates
  have havailable : s.frameDone.availableOf o.account = a.available := by
    rw [State.availableOf, show s.frameDone.findAccount o.account = some a from haccount]
    rfl
  have hplaced := State.placeHold_eq (s := s.frameDone) haccount o.holds
  generalize ht : (((s.frameDone.placeHold o.account o.holds).appendOrder o).lockMark) = t
  have hafter : t.availableOf o.account = (a.raiseHeld o.holds).available := by
    have hfound : t.findAccount o.account = some (a.raiseHeld o.holds) := by
      have hmapped := State.findAccount_mapAccount (f := fun b => b.raiseHeld o.holds) (fun _ => rfl) s.frameDone
        o.account o.account
      rw [show s.frameDone.findAccount o.account = some a from haccount, Option.map_some,
        if_pos (State.findAccount_number haccount)] at hmapped
      rw [← ht, hplaced]
      exact hmapped
    rw [State.availableOf, hfound]
    rfl
  have howner : serveSubmitOrder body s.frameDone = t.answer (quadField o.holds ++ quadField (a.raiseHeld o.holds).available) := by
    unfold serveSubmitOrder
    simp only [hrange, hadmitted, hrates, ho, havailable, hcovered.not_gt, Bool.not_true, Bool.false_eq_true, if_false]
    rw [State.admitOrder, ht, hafter]
  rw [exec_submitOrder]
  refine congrArg Host.Outcome.next ?_
  rw [State.arrive_eq_answered (kind := 16) h rfl hlength hfits howner (by rw [← ht, hplaced]; rfl), ← ht, hplaced,
    State.appendOrder, State.lockMark]
  simp only [State.answered, State.withNotices, State.withOrders, State.withLabels]
  congr 1
  exact AccountTable.ext_slots rfl rfl (State.mapAccount_slots _ _ _)

end

/-- Settles O22: the hold at its account, the record, the lock and the reply, as the owner leaves them. -/
theorem submitOrderAdmits : Obligations.SubmitOrderAdmits := by
  rintro body s f rates a o hold hfree hfits hlength rfl hrange hmark hrates hnew hframes hroom haccount hsuspended hfilm
    ho hhold hcovered
  obtain rfl : hold = o.holds := hhold
  have hadmitted : s.admissionRefusal (readSubmit body) = none := by
    have hnone : ¬ ∃ o ∈ s.orders.table, o.id = (readSubmit body).id := by
      rw [← State.findOrder_isSome_iff, hnew]
      simp
    have hunnamed := mt (s.exposedFrameNames_iff (readSubmit body).id).mpr (by simp [hframes])
    rw [State.admissionRefusal_eq, if_neg (Option.isSome_iff_ne_none.mp hmark), hrates, if_neg (Option.some_ne_none _),
      if_neg (not_or.mpr ⟨hnone, hunnamed⟩), if_neg hroom.not_ge, haccount, if_neg (Option.some_ne_none _),
      if_neg (by simpa using hsuspended), if_neg (Option.isSome_iff_ne_none.mp hfilm)]
  have hrecord : (readSubmit body).record rates = o := by
    subst ho
    simp [SubmitFields.record]
  have hnumber : o.account = (readSubmit body).account := hrecord ▸ rfl
  rw [exec_submitOrder_admitted hfree hlength hfits hrange hadmitted hrates hrecord (hnumber ▸ haccount) hcovered, hnumber]
  have hbefore : a.low = false ↔ a.warn ≤ a.allowance - a.spent - a.held := by
    rw [← Bool.not_eq_true, Account.low_iff, not_lt]
    rfl
  have hafter : (a.raiseHeld o.holds).low = true ↔ a.allowance - a.spent - (a.held + o.holds) < a.warn :=
    (a.raiseHeld o.holds).low_iff
  simp only [hbefore, hafter]
  congr 3
  split_ifs <;> rfl

/-- A check that is made, and what follows when it passes. -/
theorem of_check {c p q : Prop} [Decidable c] (hfails : c → p) (hpasses : ¬ c → q) : if c then p else q := by
  split
  · exact hfails ‹_›
  · exact hpasses ‹_›

/-- Settles O23: the checks one after the other, each refusal leaving only its answer at the port. -/
theorem submitOrderIsRefusedInOrder : Obligations.SubmitOrderIsRefusedInOrder := by
  rintro body s f hfree hfits hlength rfl
  refine ⟨s.arrive 16 body, rfl, ?_⟩
  have hrefused : ∀ result, serveSubmitOrder body s.frameDone = s.frameDone.refuse result →
      s.arrive 16 body = s.answered 16 result [] := fun result howner =>
    Host.Outcome.next.inj (exec_submitOrder_refused hfree hlength hfits howner)
  have hout := SubmitFields.not_inRange_iff (readSubmit body)
  have hchecks := s.frameDone.admissionRefusal_eq (readSubmit body)
  have hchecked : ∀ result, (readSubmit body).inRange = true → s.frameDone.admissionRefusal (readSubmit body) = some result →
      s.arrive 16 body = s.answered 16 result [] := fun result hrange hcheck => hrefused result (by
    simp only [serveSubmitOrder, hrange, hcheck, Bool.not_true, Bool.false_eq_true, if_false])
  refine of_check (fun hrange => hrefused _ (if_pos (hout.mpr hrange))) fun hrange => ?_
  have hrange : (readSubmit body).inRange = true := by simpa using mt hout.mp hrange
  refine of_check (fun hmark => hchecked _ hrange (hchecks.trans (if_pos hmark))) fun hmark => ?_
  have hchecks := hchecks.trans (if_neg hmark)
  refine of_check (fun hrates => hchecked _ hrange (hchecks.trans (if_pos hrates))) fun hrates => ?_
  have hchecks := hchecks.trans (if_neg hrates)
  refine of_check (fun hknown => hchecked _ hrange (hchecks.trans (if_pos hknown))) fun hknown => ?_
  have hchecks := hchecks.trans (if_neg hknown)
  refine of_check (fun hfull => hchecked _ hrange (hchecks.trans (if_pos hfull))) fun hfull => ?_
  have hchecks := hchecks.trans (if_neg hfull)
  refine of_check (fun haccount => hchecked _ hrange (hchecks.trans (if_pos haccount))) fun haccount => ?_
  have hchecks := hchecks.trans (if_neg haccount)
  refine of_check (fun hsuspended => hchecked _ hrange (hchecks.trans (if_pos hsuspended))) fun hsuspended => ?_
  have hchecks := hchecks.trans (if_neg hsuspended)
  refine of_check (fun hfilm => hchecked _ hrange (hchecks.trans (if_pos hfilm))) fun hfilm => ?_
  have hadmitted := hchecks.trans (if_neg hfilm)
  obtain ⟨rates, hrates⟩ := Option.ne_none_iff_exists'.mp hrates
  obtain ⟨a, haccount⟩ := Option.ne_none_iff_exists'.mp haccount
  rw [haccount, hrates]
  simp only [Option.any_some, decide_eq_true_eq, ← SubmitFields.record_holds]
  refine of_check (fun hmoney => hrefused _ ?_) fun hmoney => ?_
  · have hrates : s.frameDone.accounts.rates = some rates := hrates
    have havailable : s.frameDone.availableOf ((readSubmit body).record rates).account = a.available :=
      congrArg (fun found : Option Account => (found.map Account.available).getD 0) haccount
    simp only [serveSubmitOrder, hrange, hadmitted, hrates, havailable, Bool.not_true, Bool.false_eq_true, if_false]
    exact if_pos hmoney
  · have hleft := Host.Outcome.next.inj (exec_submitOrder_admitted hfree hlength hfits hrange hadmitted hrates rfl
      haccount (not_lt.mp hmoney))
    rw [show s.arrive 16 body = _ from hleft]
    simp [State.answered]

/-! ## Start refused -/

theorem State.startConditions_eq (s : State) : s.startConditions =
    if s.exposure.gate.reading = false then .noSlide else if s.calibration.refCal = 0 then .uncalibrated else .none := by
  simp [startConditions, StandCalibration.calibrated]

/-- The reason a Start finds, `none` when it is taken (R6 to R8). -/
theorem State.startDecision_reason (s : State) : s.startDecision.2 =
    if s.metering.test.isSome = true ∨ s.metering.calibrating.isSome = true then .busy
    else match s.activeOrder with
      | some o =>
        if ¬ (o.state = .paused .roll ∨ o.state = .paused .lamp) then .busy
        else if s.transport.state ≠ .ready then .noFilm
        else if s.transport.loadedKind ≠ some o.filmKind then .kindMismatch
        else if s.exposure.gate.reading = false then .noSlide
        else if s.calibration.refCal = 0 then .uncalibrated else .none
      | none =>
        if s.transport.state ≠ .ready then .noFilm
        else if ∀ o ∈ s.orders.table, s.qualifies o = false then .noOrder
        else if s.exposure.gate.reading = false then .noSlide
        else if s.calibration.refCal = 0 then .uncalibrated else .none := by
  have hmeasuring : s.measuring = true ↔ s.metering.test.isSome = true ∨ s.metering.calibrating.isSome = true := by
    simp [measuring]
  unfold startDecision
  simp only [hmeasuring]
  by_cases hbusy : s.metering.test.isSome = true ∨ s.metering.calibrating.isSome = true
  · rw [if_pos hbusy, if_pos hbusy]
  rw [if_neg hbusy, if_neg hbusy]
  cases s.activeOrder with
  | some o =>
    simp only [← startConditions_eq]
    cases o.state with
    | paused reason => cases reason <;> simp
    | _ => simp
  | none =>
    simp only [← startConditions_eq]
    split_ifs with hready hnone
    · rfl
    · rw [List.find?_eq_none.mpr (by simpa using hnone)]
    · obtain ⟨o, ho⟩ := Option.isSome_iff_exists.mp (List.find?_isSome.mpr (by simpa using hnone))
      rw [ho]

section
variable {s : State} {why : StartRefusal}

theorem serveStart_refused (h : s.startDecision.2 = why) (hwhy : why ≠ .none) (body : List Byte) :
    serveStart body s = (⟨.wrongState, byteField why.code⟩, s) := by
  unfold serveStart
  split
  next hnone => exact absurd ((congrArg Prod.snd hnone).symm.trans h).symm hwhy
  next hsome => rw [← h, hsome]

theorem State.takeStartPress_refused (h : s.startDecision.2 = why) (hwhy : why ≠ .none) :
    s.takeStartPress = (s.withNotices { s.notices with lastRefusal := why }).raise .startRefused := by
  unfold takeStartPress
  split
  next hnone => exact absurd ((congrArg Prod.snd hnone).symm.trans h).symm hwhy
  next hsome => rw [← h, hsome]

end

/-- A press counted to its end is taken (R195). -/
theorem Panel.pressing_taken {s : State} {b : Button} (hcount : (s.panel.button b).count.isSome = true)
    (hlevel : (s.panel.button b).level = true) :
    s.pressing b = true ∧ (s.panel.button b).taken = ⟨true, true, none⟩ := by
  simp [State.pressing, hcount, hlevel, Debounce.taken]

/-- Settles O28: the reason found before anything is changed. -/
theorem refusedStartGivesItsReason : Obligations.RefusedStartGivesItsReason := by
  intro s why hwhy hreason
  have hdecision : s.startDecision.2 = why := s.startDecision_reason.trans hreason.symm
  refine ⟨fun hfree => ?_, fun hcount hlevel => ?_⟩
  · exact congrArg Host.Outcome.next (State.arrive_eq_answered (kind := 20) (t := s.frameDone) hfree rfl rfl (Nat.zero_le _)
      (serveStart_refused (s := s.frameDone) hdecision hwhy []) rfl)
  · obtain ⟨hpressing, htaken⟩ := Panel.pressing_taken (b := .start) hcount hlevel
    have hexec : exec .startPress s = .next (if s.pressing .start then (s.takeButton .start).takeStartPress else s) := rfl
    have hpress := State.takeStartPress_refused (s := s.takeButton .start) hdecision hwhy
    rw [hexec, if_pos hpressing, hpress, State.takeButton, htaken]
    rfl

/-! ## Stop -/

theorem Order.finalAdvance_iff (o : Order) : o.finalAdvance = true ↔ o.state = .exposing ∧ o.unmade = 0 := by
  simp [finalAdvance]

/-- A Stop of the active order (R17, R20), its lighting ended first (R72, R73). -/
theorem State.takeStop_eq (s : State) : s.takeStop =
    match s.activeOrder with
    | none => s
    | some o =>
      if o.state = .exposing ∧ o.unmade = 0 then s
      else match s.exposure.purpose with
        | some .orderPass => s.abandonPass.finishOrder o.id (.cutShort .stopped)
        | some (.exposure _ _) => (s.abortExposure true).finishOrder o.id (.cutShort .stopped)
        | _ => s.finishOrder o.id (.cutShort .stopped) := by
  unfold takeStop cutShort
  cases s.activeOrder with
  | none => rfl
  | some o =>
    simp only [Bool.true_and, Order.finalAdvance_iff, dropOrderLighting]
    split
    · rfl
    · cases s.exposure.purpose with
      | none => rfl
      | some p => cases p <;> rfl

/-- Settles O29: the three forms of a Stop are the one operation. -/
theorem stopCutsTheOrderShort : Obligations.StopCutsTheOrderShort := by
  intro s stopped hstopped
  obtain rfl : stopped = State.takeStop := hstopped.trans (funext fun u => (u.takeStop_eq).symm)
  refine ⟨fun hfree => ?_, fun hlistening => ?_, fun hcount hlevel => ?_⟩
  · exact congrArg Host.Outcome.next (State.arrive_eq_answered (kind := 6) hfree rfl rfl (Nat.zero_le _) rfl (by simp))
  · have hexec : exec .broadcastStop s = .next (if s.listening then s.dropFrame.takeStop else s) := rfl
    rw [hexec, if_pos ((s.listening_iff).mpr hlistening)]
    rfl
  · obtain ⟨hpressing, htaken⟩ := Panel.pressing_taken (b := .stop) hcount hlevel
    have hexec : exec .stopPress s = .next (if s.pressing .stop then (s.takeButton .stop).takeStop else s) := rfl
    rw [hexec, if_pos hpressing, State.takeButton, htaken]
    rfl

end Sys2Proof.Machine
end


section
/-! PROOFS. The transport: what an advance's outcome does to the order that asked for it, seating, and what pulses and
stalls move. -/

namespace Sys2Proof.Machine

/-! ## Shared operations written out -/

/-- The level code of a lamp step, read off the list of the four. -/
theorem StandCalibration.code_eq_getD (c : StandCalibration) (k : Nat) : c.code k = [c.c0, c.c1, c.c2, c.c3].getD k c.c3 := by
  match k with
  | 0 | 1 | 2 | 3 => rfl
  | n + 4 => simp [code]

theorem State.lightLamp_eq (s : State) (k : Nat) (p : Purpose) :
    s.lightLamp k p = { s with exposure := s.settlingAt k p } := by
  simp [lightLamp, settlingAt, withExposure, StandCalibration.code_eq_getD]

theorem State.mapRollInCamera_eq (s : State) (f : Roll → Roll) : s.mapRollInCamera f =
    { s with rolls := s.rolls.map fun (r : Roll) => if s.transport.roll = some r.number then f r else r } := by
  cases hroll : s.transport.roll with
  | none => simp [mapRollInCamera, hroll]
  | some n => simp [mapRollInCamera, hroll, mapRoll, withRolls, eq_comm]

theorem Order.unmade_eq_zero_iff (o : Order) : o.unmade = 0 ↔ o.offsets.length * o.copies ≤ o.exposed + o.spoiled := by
  simp only [unmade, planned]
  omega

/-- The next frame of an order: its lamp is lit where the heat check allows it (R12, R70). -/
theorem State.beginFrame_eq {s : State} {o : Order} (h : s.findOrder o.id = some o) : s.beginFrame o.id =
    if s.exposure.heatUsed + o.nextEntry.heat ≤ s.calibration.heatLimit then
      { s with exposure := s.settlingAt o.nextEntry.step (.exposure o.nextEntry.step o.nextEntry.time) }
    else s.finishOrder o.id (.cutShort .heatLimit) := by
  simp only [beginFrame, h, heatAllows, decide_eq_true_eq, lightLamp_eq]

/-- Settles O48: each outcome with the checks of R15 and R16 in their order. -/
theorem advanceOutcomeMovesTheOrder : Obligations.AdvanceOutcomeMovesTheOrder := by
  rintro s o moved e hfound rfl
  simp only [State.advanceOutcome, hfound, Order.unmade_eq_zero_iff, State.beginFrame_eq hfound]
  rfl

/-! ## Seating -/

theorem TransportUnit.reading_eq_both (t : TransportUnit) : t.reading = .both ↔ t.detect1 = true ∧ t.detect2 = true := by
  cases h1 : t.detect1 <;> cases h2 : t.detect2 <;> simp [reading, h1, h2]

theorem TransportUnit.reading_eq_none (t : TransportUnit) : t.reading = .none ↔ t.detect1 = false ∧ t.detect2 = false := by
  cases h1 : t.detect1 <;> cases h2 : t.detect2 <;> simp [reading, h1, h2]

theorem TransportUnit.reading_eq_one (t : TransportUnit) : t.reading = .one ↔ t.detect1 ≠ t.detect2 := by
  cases h1 : t.detect1 <;> cases h2 : t.detect2 <;> simp [reading, h1, h2]

/-- The reading is the number of closed contacts. -/
theorem TransportUnit.reading_eq_reading (t u : TransportUnit) : t.reading = u.reading ↔
    t.detect1.toNat + t.detect2.toNat = u.detect1.toNat + u.detect2.toNat := by
  cases h1 : t.detect1 <;> cases h2 : t.detect2 <;> cases h3 : u.detect1 <;> cases h4 : u.detect2 <;>
    simp [reading, h1, h2, h3, h4]

/-- What a changed reading does to a transport without a seated magazine (R80, R82). -/
theorem TransportUnit.meetReading_eq (t : TransportUnit) : t.meetReading =
    { t with
      state := if (t.state = .empty ∧ (t.detect1 = true ∨ t.detect2 = true)) ∨
                  (t.state = .misseated ∧ t.detect1 = true ∧ t.detect2 = true) then .seating else t.state
      fromMisseated := if t.state = .empty ∧ (t.detect1 = true ∨ t.detect2 = true) then false
                       else if t.state = .misseated ∧ t.detect1 = true ∧ t.detect2 = true then true
                       else t.fromMisseated } := by
  obtain ⟨state, _, _, _, _, _, _, _, _, detect1, detect2, _, _, _⟩ := t
  cases state <;> cases detect1 <;> cases detect2 <;> rfl

theorem codedKind_eq (c1 c2 : Bool) : codedKind c1 c2 = c1.toNat + 2 * c2.toNat := by
  cases c1 <;> cases c2 <;> rfl

/-- Settles O52: the reading's change, and the three ends of a seating. -/
theorem magazinesAreSeated : Obligations.MagazinesAreSeated := by
  rintro c1 c2 s t rfl
  refine ⟨fun hrunning => ?_, ?_, ?_, ?_⟩
  · have hexec : exec (.detectReadingChange c1 c2) s = .next (s.withTransport
      (if s.running then s.transport.changeContacts c1 c2 else { s.transport with detect1 := c1, detect2 := c2 })) := rfl
    rw [hexec, if_pos hrunning]
    simp only [TransportUnit.changeContacts, TransportUnit.reading_eq_reading, TransportUnit.meetReading_eq,
      TransportUnit.reading_eq_both, State.withTransport]
  · have hexec : exec (.magazineSeated c1 c2) s = .next (if s.transport.state = .seating ∧ s.transport.reading = .both
      then s.seatMagazine (codedKind c1 c2) else s) := rfl
    rw [hexec]
    simp only [TransportUnit.reading_eq_both, codedKind_eq]
    rfl
  · have hexec : exec .misseated s = .next (if s.transport.state = .seating ∧ s.transport.reading = .one
      then (s.withTransport { s.transport with state := .misseated }).raise .magazine else s) := rfl
    rw [hexec]
    simp only [TransportUnit.reading_eq_one]
    rfl
  · have hexec : exec .seatingEmpty s = .next (match s.transport.state, s.transport.reading with
      | .seating, .none => s.unseat s.transport.fromMisseated
      | .misseated, .none => s.unseat true
      | _, _ => s) := rfl
    rw [hexec]
    by_cases hnone : s.transport.reading = .none
    · obtain ⟨h1, h2⟩ := (TransportUnit.reading_eq_none _).mp hnone
      cases hstate : s.transport.state with
      | seating => cases hfrom : s.transport.fromMisseated <;> simp [hnone, h1, h2, State.unseat] <;> rfl
      | misseated => simp [hnone, h1, h2, State.unseat]; rfl
      | _ => simp
    · have hopen : ¬ (s.transport.detect1 = false ∧ s.transport.detect2 = false) := by
        rwa [← TransportUnit.reading_eq_none]
      rw [if_neg fun h => hopen ⟨h.1, h.2.1⟩]
      cases hreading : s.transport.reading with
      | none => exact absurd hreading hnone
      | one | both => cases s.transport.state <;> rfl

/-! ## Pulses and stalls -/

theorem exec_perforationPulse (s : State) : exec .perforationPulse s = .next s.takePulse := rfl

theorem exec_leaderStall {s : State} (h : s.transport.state = .leader) : exec .leaderStall s = .next s.stallLeader :=
  congrArg Host.Outcome.next (if_pos h)

theorem exec_advanceStall {s : State} (h : s.transport.state = .advancing) :
    exec .advanceStall s = .next s.stallAdvance :=
  congrArg Host.Outcome.next (if_pos h)

/-- Settles O54: the pulse in each motor operation, and the two stalls. -/
theorem pulsesAndStallsMoveTheFilm : Obligations.PulsesAndStallsMoveTheFilm := by
  rintro s t camera rfl rfl
  refine ⟨fun hoff => ?_, fun hmotor hstate => ?_, fun hmotor hshort => ?_, fun hmotor hstate hcount => ?_,
    fun hmotor hstate hcount u hu => ?_, fun hstate => ?_, fun hstate u hu => ?_⟩
  · simp [exec_perforationPulse, State.takePulse, hoff]
  · simp [exec_perforationPulse, State.takePulse, hmotor, TransportUnit.pulse, hstate, State.withTransport]
  · rw [exec_perforationPulse]
    obtain ⟨hstate, hcount⟩ | ⟨hstate, hcount⟩ := hshort
    · simp [State.takePulse, hmotor, TransportUnit.pulse, hstate, State.withTransport, Config.leaderPulses,
        Nat.not_le.mpr hcount]
    · simp [State.takePulse, hmotor, TransportUnit.pulse, hstate, State.withTransport, Config.advancePulses,
        Nat.not_le.mpr hcount]
  · simp [exec_perforationPulse, State.takePulse, hmotor, TransportUnit.pulse, hstate, hcount, Config.leaderPulses,
      State.endLeader, State.reportFrame, State.mapRollInCamera_eq, TransportUnit.stopMotor]
    rfl
  · simp [exec_perforationPulse, State.takePulse, hmotor, TransportUnit.pulse, hstate, hcount, Config.advancePulses,
      State.endAdvance, State.reportFrame, State.mapRollInCamera_eq, TransportUnit.stopMotor]
    subst hu
    rfl
  · rw [exec_leaderStall hstate]
    simp [State.stallLeader, State.cutUsable, State.mapRollInCamera_eq, TransportUnit.stopMotor]
    rfl
  · rw [exec_advanceStall hstate]
    simp [State.stallAdvance, State.cutUsable, State.mapRollInCamera_eq, TransportUnit.stopMotor]
    subst hu
    rfl

end Sys2Proof.Machine
end


section
/-! PROOFS. The printer handshake: bytes, FED pulses, timeouts and the falls of the printer's lines. -/

namespace Sys2Proof.Machine

/-! ## A label's frame -/

/-- A KEPT entry becomes LABELLED; any other is unchanged (R114). -/
def Frame.label (f : Frame) : Frame := if f.state = .kept then { f with state := .labelled } else f

theorem State.labelFrame_eq (s : State) (e : LabelEntry) : s.labelFrame e =
    { s with rolls := s.rolls.map fun (r : Roll) =>
        if r.number = e.roll ∧ e.frame ≠ 0 then { r with frames := r.frames.modify (e.frame - 1) Frame.label } else r } := by
  refine congrArg s.withRolls (List.map_congr_left fun r _ => ?_)
  by_cases hroll : r.number = e.roll
  case neg => simp [hroll]
  by_cases hzero : e.frame = 0
  case pos => simp [Roll.frame, hzero]
  rw [List.modify_eq_set_getElem?]
  cases hframe : r.frames[e.frame - 1]? with
  | none => simp [Roll.frame, hzero, hframe]
  | some f =>
    obtain ⟨hlt, hget⟩ := List.getElem?_eq_some_iff.mp hframe
    by_cases hkept : f.state = .kept
    · simp [Roll.frame, hroll, hzero, hframe, hkept, Roll.writeFrame, Frame.label]
    · have hsame : r.frames.set (e.frame - 1) f = r.frames := by rw [← hget, List.set_getElem_self]
      simp only [hroll, Roll.frame, hzero, hframe, hkept, Frame.label, if_true, if_false, ne_eq, not_false_eq_true,
        and_self, Option.map_eq_map, Option.map_some, Option.getD_some, hsame]
      rw [← hroll]

/-! ## The printer's events -/

theorem exec_byteTaken (s : State) : exec .byteTaken s = .next s.takeByte := rfl

theorem exec_fedPulse (s : State) : exec .fedPulse s = .next s.takeFed := rfl

theorem exec_busyTimeout (s : State) : exec .busyTimeout s = .next (match s.labels.printer with
    | .sending _ _ => s.printerFails (.faulted .busyTimeout)
    | .idle | .feeding _ _ | .stockOut | .faulted _ => s) := rfl

theorem exec_fedTimeout (s : State) : exec .fedTimeout s = .next (match s.labels.printer with
    | .feeding _ _ => s.printerFails (.faulted .fedTimeout)
    | .idle | .sending _ _ | .stockOut | .faulted _ => s) := rfl

theorem exec_prnStockFall (s : State) : exec .prnStockFall s = .next
    (if s.running then (s.withLabels { s.labels with stockHigh := false }).printerFails .stockOut
     else s.withLabels { s.labels with stockHigh := false }) := rfl

theorem exec_prnFaultFall (s : State) : exec .prnFaultFall s = .next
    (if s.running then (s.withLabels { s.labels with faultHigh := false }).printerFails (.faulted .faultLine)
     else s.withLabels { s.labels with faultHigh := false }) := rfl

/-- The printer has no alarm: a failure acts (R128, R129, R131, R132). -/
def Printer.alarmed : Printer → Bool
  | .stockOut | .faulted _ => true
  | .idle | .sending _ _ | .feeding _ _ => false

theorem State.printerFails_of_alarmed {s : State} (h : s.labels.printer.alarmed = true) (p : Printer) :
    s.printerFails p = s := by
  unfold printerFails
  split <;> simp_all [Printer.alarmed]

theorem State.printerFails_of_not_alarmed {s : State} (h : s.labels.printer.alarmed = false) (p : Printer) :
    s.printerFails p = { s with
      labels := { s.labels with printer := p, wait := 0, dataLines := 0, strobed := false }
      notices := s.notices.noting 512 } := by
  unfold printerFails
  cases hprinter : s.labels.printer with
  | stockOut | faulted => simp [Printer.alarmed, hprinter] at h
  | idle | sending | feeding => rfl

/-- The printer at rest with a label in the queue begins it at once (R122). -/
theorem State.printerIdle_of_cons {s : State} {e : LabelEntry} {rest : List LabelEntry} (h : s.labels.queue = e :: rest) :
    s.printerIdle = s.withLabels (s.labels.beginLabel (s.composeLabel e)) := by
  have hcompose : (s.withLabels (s.labels.enter .idle)).composeLabel e = s.composeLabel e :=
    composeLabel_congr _ _ e rfl rfl rfl
  simp only [printerIdle, beginPrinting, withLabels_labels, LabelUnit.enter_printer, LabelUnit.enter_queue, h, hcompose,
    LabelUnit.enter_beginLabel]
  rfl

/-- A label's completion (R130): its frame and its order, and then the next head's label or none. -/
theorem State.completeLabel_eq {s : State} {e : LabelEntry} {o : Order} (horder : s.findOrder e.order = some o) {u : State}
    (hu : u = ((s.labelFrame e).oweFewerLabels e.order 1).post e.order .label o.labelRate) (rest : List LabelEntry) :
    s.completeLabel e rest =
      match rest with
      | [] => { u with
        labels := { s.labels with queue := [], printer := .idle, wait := 0, dataLines := 0, strobed := false }
        notices := u.notices.noting 256 }
      | head :: others => { u with
        labels := LabelUnit.beginLabel { s.labels with queue := head :: others } (u.composeLabel head) } := by
  have hcharged : (s.labelFrame e).chargeLabel e.order = u := by
    have hfound : (s.labelFrame e).findOrder e.order = some o := horder
    rw [hu, chargeLabel, hfound]
  have hsettled : ((s.withLabels { s.labels with queue := rest }).labelFrame e).chargeLabel e.order =
      u.withLabels { s.labels with queue := rest } := by
    rw [← hcharged]
    exact chargeLabel_withLabels (s.labelFrame e) _ e.order
  have hlabels : u.labels = s.labels := by
    rw [← hcharged, chargeLabel_labels]
    rfl
  rw [completeLabel, hsettled]
  cases rest with
  | nil => rfl
  | cons head others =>
    have hcompose : (u.withLabels { s.labels with queue := head :: others }).composeLabel head = u.composeLabel head :=
      composeLabel_congr _ _ head (by rw [hlabels]; rfl) rfl rfl
    simp only [List.isEmpty_cons, Bool.false_eq_true, if_false]
    rw [printerIdle_of_cons rfl, hcompose]
    rfl

/-- Settles O57: each event by the state of the printer. -/
theorem printerFollowsItsEvents : Obligations.PrinterFollowsItsEvents := by
  rintro s l rfl
  refine ⟨fun label => s.labels.beginLabel_eq label, fun label i hsending => ⟨fun hmore => ?_, fun hlast => ?_, ?_, ?_, ?_⟩,
    fun label i hfeeding => ⟨?_, ?_, ?_, fun e rest o u hqueue horder hu => ?_⟩, fun hother => ?_,
    fun hrunning hworking => ?_, fun hidle => ?_, rfl, rfl⟩
  · rw [exec_byteTaken, State.takeByte, hsending]
    exact congrArg Host.Outcome.next (if_pos hmore)
  · rw [exec_byteTaken, State.takeByte, hsending]
    exact congrArg Host.Outcome.next (if_neg (Nat.not_lt.mpr hlast))
  · rw [exec_busyTimeout, hsending]
    exact congrArg Host.Outcome.next (State.printerFails_of_not_alarmed (by rw [hsending]; rfl) _)
  · simp [exec_fedPulse, State.takeFed, hsending]
  · simp [exec_fedTimeout, hsending]
  · rw [exec_fedTimeout, hfeeding]
    exact congrArg Host.Outcome.next (State.printerFails_of_not_alarmed (by rw [hfeeding]; rfl) _)
  · simp [exec_byteTaken, State.takeByte, hfeeding]
  · simp [exec_busyTimeout, hfeeding]
  · rw [exec_fedPulse]
    have htaken : s.takeFed = s.completeLabel e rest := by simp [State.takeFed, hfeeding, hqueue]
    exact congrArg Host.Outcome.next
      (htaken.trans (State.completeLabel_eq horder (u := u) (by rw [hu, State.labelFrame_eq]; rfl) rest))
  · obtain h | h | ⟨cause, h⟩ := hother <;>
      simp [exec_byteTaken, State.takeByte, exec_busyTimeout, exec_fedPulse, State.takeFed, exec_fedTimeout, h]
  · have hquiet : s.labels.printer.alarmed = false := by
      obtain h | ⟨label, i, h⟩ | ⟨label, i, h⟩ := hworking <;> rw [h] <;> rfl
    rw [exec_prnStockFall, exec_prnFaultFall, if_pos hrunning, if_pos hrunning]
    exact ⟨congrArg Host.Outcome.next
        (State.printerFails_of_not_alarmed (s := s.withLabels { s.labels with stockHigh := false }) hquiet _),
      congrArg Host.Outcome.next
        (State.printerFails_of_not_alarmed (s := s.withLabels { s.labels with faultHigh := false }) hquiet _)⟩
  · have hlevel (l : LabelUnit) (hprinter : l.printer = s.labels.printer) (p : Printer) :
        (if s.running then (s.withLabels l).printerFails p else s.withLabels l) = s.withLabels l := by
      split
      next hrunning =>
        obtain h | h | ⟨cause, h⟩ := hidle
        · rw [hrunning] at h
          cases h
        · exact State.printerFails_of_alarmed (by rw [State.withLabels_labels, hprinter, h]; rfl) p
        · exact State.printerFails_of_alarmed (by rw [State.withLabels_labels, hprinter, h]; rfl) p
      next => rfl
    exact ⟨congrArg Host.Outcome.next (hlevel { s.labels with stockHigh := false } rfl _),
      congrArg Host.Outcome.next (hlevel { s.labels with faultHigh := false } rfl _)⟩

end Sys2Proof.Machine
end


section
/-! PROOFS. The write engine: dirty marks, the lowest dirty place, and the RESET that waits for the end of a write. -/

namespace Sys2Proof.Machine

/-! ## The engine -/

theorem State.engineFree_iff (s : State) : s.engineFree = true ↔
    s.store.engine = none ∧ s.power.phase = .listening ∧ s.store.resetPending = false := by
  simp [engineFree, and_assoc]

theorem State.startWrite_of_busy {s : State} (h : s.store.engine ≠ none ∨ s.store.resetPending = true) :
    s.startWrite = s := by
  have hbusy : s.engineFree = false := by
    rw [← Bool.not_eq_true, State.engineFree_iff]
    rintro ⟨hengine, -, hpending⟩
    simp [hengine, hpending] at h
  simp [startWrite, hbusy]

theorem State.startWrite_of_clean {s : State} (h : ∀ m ∈ s.store.dirty, m = false) : s.startWrite = s := by
  have hnone : s.store.lowestDirty = none := by simpa [SettingsStore.lowestDirty] using h
  unfold startWrite
  split <;> simp_all

/-- A free engine takes the lowest dirty place with its snapshot, and clears its mark (R166). -/
theorem State.startWrite_of_lowest {s : State} (hfree : s.engineFree = true) {p : Nat}
    (hdirty : s.store.dirty[p]? = some true) (hlowest : ∀ q, q < p → s.store.dirty[q]? = some false) :
    s.startWrite =
      { s with store := { s.store with dirty := s.store.dirty.set p false, engine := some ⟨p, s.image p, 0⟩ } } := by
  obtain ⟨hlt, hget⟩ := List.getElem?_eq_some_iff.mp hdirty
  have hfound : s.store.lowestDirty = some p := by
    refine List.findIdx?_eq_some_iff_getElem.mpr ⟨hlt, by simpa using hget, fun q hq => ?_⟩
    obtain ⟨_, hclean⟩ := List.getElem?_eq_some_iff.mp (hlowest q hq)
    simpa using hclean
  simp only [startWrite, hfree, hfound]
  rfl

/-- The store with a place's mark set, before the engine looks (R165). -/
def State.dirtied (s : State) (place : Nat) : State :=
  s.withStore { s.store with dirty := s.store.dirty.set place true }

theorem State.markDirty_eq (s : State) (place : Nat) : s.markDirty place = (s.dirtied place).startWrite := rfl

/-- A place that holds its snapshot at the end of the write (R166). -/
def State.written (s : State) (w : PlaceWrite) : State :=
  s.withStore { s.store with places := s.store.places.set w.place w.image, engine := none }

theorem State.endWrite_eq (s : State) (w : PlaceWrite) : s.endWrite w =
    if s.store.resetPending then (s.written w).takeReset else (s.written w).startWrite := rfl

theorem exec_writeEnd {s : State} {w : PlaceWrite} (h : s.store.engine = some w) :
    exec .writeEnd s = .next (s.endWrite w) := by
  change Host.Outcome.next _ = _
  rw [h]

/-! ## RESET -/

/-- What a RESET leaves of the store, the orders, the light and the rolls, the load begun or not. -/
structure State.ResetFrom (s t : State) : Prop where
  store : t.store = s.store.cleared
  orders : t.orders = .reset
  lamp : t.exposure.lamp = .off
  heat : t.exposure.heatUsed = 0
  rolls : t.rolls = []
  power : t.power = { s.power with phase := if s.power.resetHigh then .loading else .held }

theorem State.takeReset_resetFrom (s : State) : s.ResetFrom s.takeReset := by
  cases hhigh : s.power.resetHigh with
  | false =>
    have htaken : s.takeReset = s.cleared .held := by simp [takeReset, hhigh]
    rw [htaken]
    exact ⟨rfl, rfl, rfl, rfl, rfl, by simp [hhigh, cleared]⟩
  | true =>
    have htaken : s.takeReset = (s.cleared .held).beginLoad := by simp [takeReset, hhigh]
    rw [htaken, beginLoad, loadPlaces]
    dsimp only
    split <;> exact ⟨rfl, rfl, rfl, rfl, rfl, by simp [hhigh, cleared]⟩

/-- A fall of RESET met by an IDLE engine, and the rise after it where the line has risen, make a RESET (R169, R170). -/
theorem State.runCommands_reset {s : State} (hlistening : s.power.phase = .listening) (hengine : s.store.engine = none) :
    runCommands (if s.power.resetHigh = true then [.resetFall, .resetRise] else [.resetFall]) s = .next s.takeReset := by
  have hfall : exec .resetFall s = .next ((s.withPower { s.power with resetHigh := false }).cleared .held) := by
    change Host.Outcome.next s.fallReset = _
    simp [fallReset, hlistening, hengine, takeReset]
  cases hhigh : s.power.resetHigh with
  | false =>
    have hsame : s.withPower { s.power with resetHigh := false } = s := by rw [← hhigh]; rfl
    rw [hsame] at hfall
    simp [runCommands, hfall, takeReset, hhigh]
  | true =>
    have hrise : exec .resetRise ((s.withPower { s.power with resetHigh := false }).cleared .held) =
        .next (s.cleared .held).beginLoad := by
      have hrisen : (((s.withPower { s.power with resetHigh := false }).cleared .held).withPower ⟨.held, true⟩) =
          s.cleared .held := by simp [cleared, ← hhigh]; rfl
      rw [← hrisen]
      rfl
    simp [runCommands, hfall, hrise, takeReset, hhigh]

/-- Settles O44: what a free engine, a busy one, and one with a RESET pending do. -/
theorem writeEngineTakesTheLowestPlace : Obligations.WriteEngineTakesTheLowestPlace := by
  intro s place hlength hplace hlistening
  refine ⟨fun hbusy => State.startWrite_of_busy (s := s.dirtied place) hbusy, fun hidle hpending hclean => ?_,
    fun w hw hpending => ⟨fun hclean => ?_, fun p hp hdirty hlowest => ?_⟩, fun w hw hpending => ?_⟩
  · have hmark : s.store.dirty[place]'(by omega) = false := hclean _ (List.getElem_mem _)
    have hrestored : (s.store.dirty.set place true).set place false = s.store.dirty := by
      rw [List.set_set, ← hmark, List.set_getElem_self]
    have hset : (s.store.dirty.set place true)[place]? = some true := by simp [hlength, hplace]
    have hlowest (q : Nat) (hq : q < place) : (s.store.dirty.set place true)[q]? = some false := by
      rw [List.getElem?_set_ne (by omega), List.getElem?_eq_getElem (by omega), hclean _ (List.getElem_mem _)]
    rw [State.markDirty_eq, State.startWrite_of_lowest (s := s.dirtied place) (p := place)
      ((State.engineFree_iff _).mpr ⟨hidle, hlistening, hpending⟩) hset hlowest]
    change { s with store := { s.store with
      dirty := (s.store.dirty.set place true).set place false, engine := some ⟨place, s.image place, 0⟩ } } = _
    rw [hrestored]
  · rw [exec_writeEnd hw, State.endWrite_eq, hpending]
    exact congrArg Host.Outcome.next (State.startWrite_of_clean (s := s.written w) hclean)
  · rw [exec_writeEnd hw, State.endWrite_eq, hpending]
    exact congrArg Host.Outcome.next (State.startWrite_of_lowest (s := s.written w)
      ((State.engineFree_iff _).mpr ⟨rfl, hlistening, hpending⟩) hdirty hlowest)
  · obtain ⟨hstore, horders, hlamp, hheat, hrolls, hpower⟩ := (s.written w).takeReset_resetFrom
    have hrun := State.runCommands_reset (s := s.written w) hlistening rfl
    rw [exec_writeEnd hw, State.endWrite_eq, hpending]
    exact ⟨(s.written w).takeReset, rfl, by rw [hstore]; rfl, by rw [hstore]; rfl, by rw [hstore]; rfl, by rw [hstore]; rfl,
      horders, hlamp, hheat, hrolls, hpower, hrun⟩

end Sys2Proof.Machine
end


section
/-! PROOFS. Rolls declared, rewound and jammed. -/

namespace Sys2Proof.Machine

theorem exec_declareRoll (body : List Byte) (s : State) : exec (.declareRoll body) s = .next (s.arrive 32 body) := rfl

theorem State.findRoll_isSome_iff (s : State) (number : Nat) :
    (s.findRoll number).isSome = true ↔ ∃ r ∈ s.rolls, r.number = number := by
  simp [findRoll, List.find?_isSome]

/-- The declared frames of a frame count, where one can be told (R102). -/
theorem State.declaredFrames_eq {s : State} {kind : Nat} (hkind : s.transport.loadedKind = some kind) (count : Nat) :
    s.declaredFrames count =
      if count = 0 then (s.films.getD kind none).map FilmKind.defaultFrames
      else some (if count < 12 then 12 else if 40 < count then 40 else count) := by
  unfold declaredFrames
  rw [hkind]
  refine if_congr Iff.rfl rfl (congrArg some ?_)
  split_ifs <;> omega

/-- Declare Roll's checks in their order (R87, R102). -/
theorem serveDeclareRoll_eq {a b c : Byte} {s : State} {number count kind frames : Nat}
    (hnumber : number = a.toNat * 256 + b.toNat) (hcount : count = c.toNat)
    (hkind : s.transport.state = .loaded → s.transport.loadedKind = some kind)
    (hframes : frames = (if count = 0 then ((s.films.getD kind none).map FilmKind.defaultFrames).getD 0
      else if count < 12 then 12 else if 40 < count then 40 else count)) :
    serveDeclareRoll [a, b, c] s =
      if number = 0 then s.refuse .outOfRange
      else if s.transport.state ≠ .loaded then s.refuse .wrongState
      else if ∃ r ∈ s.rolls, r.number = number then s.refuse .duplicate
      else if 4 ≤ s.rolls.length then s.refuse .tableFull
      else if count = 0 ∧ s.films.getD kind none = none then s.refuse .notReady
      else (s.declareRoll number kind frames).accept (byteField frames) := by
  have hpair : pairAt [a, b, c] 0 = number := hnumber.symm
  have hbyte : byteAt [a, b, c] 2 = count := hcount.symm
  simp only [serveDeclareRoll, hpair, hbyte, State.findRoll_isSome_iff, Config.maxRolls, ge_iff_le]
  refine if_congr Iff.rfl rfl (ite_congr rfl (fun _ => rfl) fun hloaded => ?_)
  have hloadedKind := hkind (not_not.mp hloaded)
  refine if_congr Iff.rfl rfl (if_congr Iff.rfl rfl ?_)
  rw [State.declaredFrames_eq hloadedKind, hloadedKind]
  by_cases hzero : count = 0
  · cases hfilm : s.films.getD kind none with
    | none => simp [hzero]
    | some f =>
      have hdefault : frames = f.defaultFrames := by rw [hframes, if_pos hzero, hfilm]; rfl
      simp [hzero, hdefault]
  · simp [hzero, hframes]

/-- Declare Roll at a free port. -/
theorem exec_declareRoll_eq {a b c : Byte} {s : State} {number count kind frames : Nat} (h : s.free)
    (hnumber : number = a.toNat * 256 + b.toNat) (hcount : count = c.toNat)
    (hkind : s.transport.state = .loaded → s.transport.loadedKind = some kind)
    (hframes : frames = (if count = 0 then ((s.films.getD kind none).map FilmKind.defaultFrames).getD 0
      else if count < 12 then 12 else if 40 < count then 40 else count)) :
    exec (.declareRoll [a, b, c]) s = .next
      (if number = 0 then s.answered 32 .outOfRange []
       else if s.transport.state ≠ .loaded then s.answered 32 .wrongState []
       else if ∃ r ∈ s.rolls, r.number = number then s.answered 32 .duplicate []
       else if 4 ≤ s.rolls.length then s.answered 32 .tableFull []
       else if count = 0 ∧ s.films.getD kind none = none then s.answered 32 .notReady []
       else (s.declareRoll number kind frames).answered 32 .accepted (byteField frames)) := by
  have hfits : [a, b, c].length ≤ Config.maxBody := by simp [Config.maxBody]
  have howner : serveChecked 32 [a, b, c] s.frameDone = _ :=
    serveDeclareRoll_eq (s := s.frameDone) hnumber hcount hkind hframes
  rw [exec_declareRoll]
  exact congrArg Host.Outcome.next <|
    State.arrive_eq_ite_refused h rfl rfl hfits howner fun howner =>
    State.arrive_eq_ite_refused h rfl rfl hfits howner fun howner =>
    State.arrive_eq_ite_refused h rfl rfl hfits howner fun howner =>
    State.arrive_eq_ite_refused h rfl rfl hfits howner fun howner =>
    State.arrive_eq_ite_refused h rfl rfl hfits howner fun howner =>
    State.arrive_eq_answered (t := s.frameDone.declareRoll number kind frames) h rfl rfl hfits howner rfl

/-- Settles O51: a declaration, a Rewind as a request and as a press, and its two ends. -/
theorem rollsAreDeclaredAndRewound : Obligations.RollsAreDeclaredAndRewound := by
  rintro a b c s number count kind frames roll _ working hnumber hcount hkind hframes hroll rfl hworking
  have hmay : s.mayRewind = true ↔ working = false ∧
      (s.transport.state = .loaded ∨ s.transport.state = .ready ∨ s.transport.state = .atEnd) := by
    have horder : s.orderWorking = true ↔ working = true := by
      rw [hworking, State.orderWorking, Option.any_eq_true]
      simp
    simp [State.mayRewind, horder, or_assoc, ← Bool.not_eq_true]
  refine ⟨fun hfree => ?_, fun hfree => ?_, fun hpcount hlevel => ?_, fun hrewinding hseen => ⟨?_, ?_⟩,
    fun hrewinding hquiet => ⟨?_, ?_⟩⟩
  · rw [hroll]
    exact exec_declareRoll_eq hfree hnumber hcount hkind hframes
  · have howner : serveChecked 33 [] s.frameDone = if s.mayRewind then s.frameDone.startRewind.accept []
        else s.frameDone.refuse .wrongState := rfl
    simp only [hmay] at howner
    refine congrArg Host.Outcome.next ?_
    change s.arrive 33 [] = _
    split
    next htaken =>
      exact State.arrive_eq_answered (t := s.frameDone.startRewind) hfree rfl rfl (Nat.zero_le _)
        (howner.trans (if_pos htaken)) rfl
    next hrefused =>
      exact State.arrive_eq_answered (t := s.frameDone) hfree rfl rfl (Nat.zero_le _)
        (howner.trans (if_neg hrefused)) rfl
  · obtain ⟨hpressing, htaken⟩ := Panel.pressing_taken (b := .rewind) hpcount hlevel
    have hexec : exec .rewindPress s =
      .next (if s.pressing .rewind then (s.takeButton .rewind).takeRewindPress else s) := rfl
    rw [hexec, if_pos hpressing, State.takeRewindPress]
    change Host.Outcome.next (if s.mayRewind = true then _ else _) = _
    simp only [hmay, State.takeButton, htaken]
    rfl
  · exact congrArg Host.Outcome.next (if_pos ⟨hrewinding, hseen⟩)
  · exact congrArg Host.Outcome.next (if_neg fun h => by rw [hseen] at h; exact absurd h.2 (by decide))
  · exact congrArg Host.Outcome.next (if_pos ⟨hrewinding, hquiet⟩)
  · exact congrArg Host.Outcome.next (if_neg fun h => by rw [hquiet] at h; exact absurd h.2 (by decide))

end Sys2Proof.Machine
end


section
/-! PROOFS. Money: a posting, a release and a refund move an order's part and its account's amounts together. -/

namespace Sys2Proof.Machine

/-! ## A change of an account -/

/-- A dirty mark, and the engine that may take it, change the store alone. -/
theorem State.markDirty_eq_store (s : State) (place : Nat) :
    s.markDirty place = { s with store := (s.markDirty place).store } := by
  rw [markDirty, startWrite]
  split <;> rfl

/-- A change whose place may be marked dirty differs from the change alone by the store. -/
theorem State.exists_store_of_marked {t u : State} {place : Nat} {c : Prop} [Decidable c]
    (h : t = if c then u.markDirty place else u) : ∃ store, t = { u with store := store } := by
  by_cases hc : c
  · rw [if_pos hc] at h
    exact ⟨_, h.trans (u.markDirty_eq_store place)⟩
  · rw [if_neg hc] at h
    exact ⟨u.store, h⟩

theorem State.slotOf_mapAccount {f : Account → Account} (hnumber : ∀ a, (f a).number = a.number) (s : State) (n m : Nat) :
    (s.mapAccount n f).slotOf m = s.slotOf m := by
  have hkept (slot : Option Account) : slotHolds m (if slotHolds n slot then slot.map f else slot) = slotHolds m slot := by
    split
    · exact slotHolds_map hnumber m slot
    · rfl
  simp only [slotOf, mapAccount, withAccounts_accounts, List.findIdx?_map, Function.comp_def, hkept]

/-- A change of an account's amounts that raises no low mark: its place is marked dirty when spent changed (R146). -/
theorem State.changeAccount_of_found {f : Account → Account} (hnumber : ∀ a, (f a).number = a.number) {s : State} {n slot : Nat}
    {a : Account} (hfound : s.findAccount n = some a) (hslot : s.slotOf n = some slot)
    (hlow : (f a).low = true → a.low = true) : s.changeAccount n f =
      if (f a).spent ≠ a.spent then (s.mapAccount n f).markDirty (6 + slot) else s.mapAccount n f := by
  have hquiet : (!a.low && (f a).low) = false := by
    by_cases hnow : (f a).low = true
    · simp [hlow hnow]
    · simp [hnow]
  have hmark : (s.mapAccount n f).markAccount n = (s.mapAccount n f).markDirty (6 + slot) := by
    rw [markAccount, slotOf_mapAccount hnumber, hslot]
  simp only [changeAccount, hfound, noteLow, hquiet, hmark, Bool.false_eq_true, if_false]

theorem State.findAccount_changeAccount {f : Account → Account} (hnumber : ∀ a, (f a).number = a.number) (s : State)
    (n m : Nat) : (s.changeAccount n f).findAccount m = (s.findAccount m).map fun a => if a.number = n then f a else a := by
  rw [← findAccount_mapAccount hnumber, findAccount, findAccount, changeAccount_accounts]

theorem State.findAccount_changeAccount_same {f : Account → Account} (hnumber : ∀ a, (f a).number = a.number) {s : State}
    {n : Nat} {a : Account} (h : s.findAccount n = some a) : (s.changeAccount n f).findAccount n = some (f a) := by
  rw [findAccount_changeAccount hnumber, h, Option.map_some, if_pos (findAccount_number h)]

theorem State.findAccount_changeAccount_ne {f : Account → Account} (hnumber : ∀ a, (f a).number = a.number) (s : State)
    {n m : Nat} (h : m ≠ n) : (s.changeAccount n f).findAccount m = s.findAccount m := by
  rw [findAccount_changeAccount hnumber]
  cases hm : s.findAccount m with
  | none => rfl
  | some a => rw [Option.map_some, if_neg (by rw [findAccount_number hm]; exact h)]

theorem State.findOrder_mapOrder_ne {f : Order → Order} (hid : ∀ o, (f o).id = o.id) (s : State) {id i : Nat} (h : i ≠ id) :
    (s.mapOrder id f).findOrder i = s.findOrder i := by
  have hsame (q : Order) : (if q.id = id then f q else q).id = q.id := by split <;> simp [hid]
  have hother : s.orders.table.find? (fun q => q.id = i) = (s.orders.table.find? fun q => q.id = i).map
      fun q => if q.id = id then f q else q := by
    cases hfind : s.orders.table.find? fun q => q.id = i with
    | none => rfl
    | some q =>
      have hq : q.id = i := by simpa using List.find?_some hfind
      rw [Option.map_some, if_neg (by rw [hq]; exact h)]
  simp only [findOrder, mapOrder, withOrders_orders, List.find?_map, Function.comp_def, hsame]
  exact hother.symm

/-! ## Refunds, postings and releases -/

/-- What a refund takes off spent (R150). -/
def Account.refunded (charge : Nat) (a : Account) : Account := { a with spent := a.spent - charge }

/-- What a posting or a release moves (R146). -/
def Account.moved (amount : Nat) (posted : Bool) (a : Account) : Account :=
  { a with held := a.held - amount, spent := if posted then a.spent + amount else a.spent }

theorem Account.low_of_refunded {charge : Nat} {a : Account} (h : (a.refunded charge).low = true) : a.low = true := by
  rw [low_iff] at h ⊢
  simp only [available, refunded] at h ⊢
  omega

/-- Where held covers the amount, what is available does not fall. -/
theorem Account.low_of_moved {amount : Nat} {posted : Bool} {a : Account} (hheld : amount ≤ a.held)
    (h : (a.moved amount posted).low = true) : a.low = true := by
  rw [low_iff] at h ⊢
  simp only [available, moved] at h ⊢
  split at h <;> omega

section
variable {s : State} {o : Order} {a : Account} {slot left : Nat}

theorem State.refund_eq {n : Nat} (hfound : s.findAccount n = some a) (hslot : s.slotOf n = some slot) (charge : Nat) :
    s.refund n charge =
      if a.spent - charge ≠ a.spent then (s.mapAccount n (Account.refunded charge)).markDirty (6 + slot)
      else s.mapAccount n (Account.refunded charge) :=
  changeAccount_of_found (f := Account.refunded charge) (fun _ => rfl) hfound hslot Account.low_of_refunded

/-- A posting or a release, where the account's held covers what moves (R146). -/
theorem State.moveHold_eq (horder : s.findOrder o.id = some o) (hfound : s.findAccount o.account = some a)
    (hslot : s.slotOf o.account = some slot) {part : HoldPart} {amount : Nat} (hleft : left = min amount (o.hold part))
    (hheld : left ≤ a.held) (posted : Bool) : s.moveHold o.id part amount posted =
      if (a.moved left posted).spent ≠ a.spent then
        ((s.mapOrder o.id fun q => q.lowerHold part left).mapAccount o.account (Account.moved left posted)).markDirty (6 + slot)
      else (s.mapOrder o.id fun q => q.lowerHold part left).mapAccount o.account (Account.moved left posted) := by
  simp only [moveHold, horder, ← hleft]
  exact changeAccount_of_found (f := Account.moved left posted) (fun _ => rfl)
    (s := s.mapOrder o.id fun q => q.lowerHold part left) hfound hslot (Account.low_of_moved hheld)

end

/-- Settles O49: the orders and accounts found after each, and the place marked dirty where spent changed. -/
theorem moneyMovesTogether : Obligations.MoneyMovesTogether := by
  intro s o a slot part amount left posted horder hfound hslot hpart hheld _ t
  have hleft : left = min amount (o.hold part) := by cases part <;> exact hpart
  have ht : t = _ := State.moveHold_eq horder hfound hslot hleft hheld posted
  have hchange : t = (s.mapOrder o.id fun q => q.lowerHold part left).changeAccount o.account (Account.moved left posted) := by
    simp only [t, State.moveHold, horder, ← hleft]
    rfl
  clear_value t
  have horders : t.orders = (s.mapOrder o.id fun q => q.lowerHold part left).orders := by
    rw [hchange, State.changeAccount_orders]
  obtain ⟨store', hstore⟩ := State.exists_store_of_marked ht
  refine ⟨?_, fun i hi => ?_, ?_, fun n hn => ?_, ?_, ?_, ?_, fun hsame => ?_, fun hposted hmoved => ?_, fun charge => ?_⟩
  · have hrecord : t.findOrder o.id = some (o.lowerHold part left) := by
      rw [State.findOrder, horders]
      exact State.findOrder_mapOrder (fun q => q.lowerHold_id part left) horder
    rw [hrecord]
    cases part <;> rfl
  · rw [State.findOrder, horders]
    exact State.findOrder_mapOrder_ne (fun q => q.lowerHold_id part left) s hi
  · rw [hchange]
    exact State.findAccount_changeAccount_same (f := Account.moved left posted) (fun _ => rfl) hfound
  · rw [hchange]
    exact State.findAccount_changeAccount_ne (f := Account.moved left posted) (fun _ => rfl) _ hn
  · rw [hstore]
    rfl
  · rw [hstore]
    rfl
  · rw [hstore]
    rfl
  · have hspent : (a.moved left posted).spent = a.spent := by
      obtain rfl | rfl := hsame <;> simp [Account.moved]
    rw [ht, if_neg (not_not.mpr hspent)]
    rfl
  · have hspent : (a.moved left posted).spent ≠ a.spent := by
      simpa [Account.moved, hposted] using hmoved
    rw [if_pos hspent] at ht
    rw [hstore] at ht ⊢
    exact ht
  · have hu := State.refund_eq hfound hslot charge
    obtain ⟨store', hrefunded⟩ := State.exists_store_of_marked hu
    refine ⟨_, rfl, State.findAccount_changeAccount_same (f := Account.refunded charge) (fun _ => rfl) hfound,
      fun n hn => State.findAccount_changeAccount_ne (f := Account.refunded charge) (fun _ => rfl) s hn,
      by rw [hrefunded]; rfl, by rw [hrefunded]; rfl, fun hspent => ?_, fun hspent => ?_⟩
    · rw [hu, if_neg (not_not.mpr hspent)]
      rfl
    · rw [hrefunded]
      exact hrefunded.symm.trans (hu.trans (if_pos hspent))

end Sys2Proof.Machine
end


section
/-! PROOFS. The end of an exposure: the lamp out with its heat, the frame recorded and charged, and the advance. -/

namespace Sys2Proof.Machine

theorem heatOf_eq (ms k : Nat) : heatOf ms k = (ms + 2 ^ k - 1) / 2 ^ k := by
  rw [heatOf, ← Nat.add_sub_assoc Nat.one_le_two_pow]

/-- A lit lamp goes out with the heat of its step (R63, R69). -/
theorem State.endLighting_eq {s : State} {k : Nat} (h : s.exposure.lamp.step = some k) :
    s.endLighting = { s with exposure := s.exposure.putOut s.exposure.litTime k } := by
  simp only [endLighting, ExposureUnit.heatAfter, h, heatOf_eq]
  rfl

theorem State.recordFrame_eq (s : State) (o : Order) (state : FrameState) (charge : Nat) :
    s.recordFrame o state charge = { s with
      rolls := s.rolls.map fun (r : Roll) =>
        if s.transport.roll = some r.number ∧ s.transport.currentFrame ≠ 0 then
          { r with frames := r.frames.set (s.transport.currentFrame - 1) (o.frameEntry state charge) }
        else r } := by
  rw [recordFrame, mapRollInCamera_eq]
  refine congrArg s.withRolls (List.map_congr_left fun r _ => ?_)
  by_cases hzero : s.transport.currentFrame = 0 <;> simp [Roll.writeFrame, hzero]

theorem State.usableFrames_congr {s t : State} (htransport : t.transport = s.transport) (hrolls : t.rolls = s.rolls) :
    t.usableFrames = s.usableFrames := by
  have hfind : t.findRoll = s.findRoll := funext fun n => by rw [findRoll, findRoll, hrolls]
  rw [usableFrames, usableFrames, htransport, hfind]

/-- What an advance request leaves (R90, R91). -/
theorem State.requestAdvance_eq (s : State) (id : Nat) : s.requestAdvance id =
    if s.usableFrames ≤ s.transport.currentFrame then
      { s with transport := { s.transport with state := .atEnd }, notices := s.notices.noting 4 }
    else { s with transport := { s.transport with
      state := .advancing, motor := .forward, pulseCount := 0, pulseSeen := false, quietTime := 0
      advanceFor := some id } } := by
  rw [requestAdvance]
  exact if_congr decide_eq_true_iff rfl rfl

/-- The postings of a completed exposure (R13): the frame rate, and the setup fee at the first exposed frame. -/
def State.chargeExposure (s : State) (o : Order) : State :=
  if o.exposed = 0 then (s.post o.id .frame o.frameRate).post o.id .setup o.setupFee
  else s.post o.id .frame o.frameRate

theorem State.chargeExposure_transport (s : State) (o : Order) : (s.chargeExposure o).transport = s.transport := by
  unfold chargeExposure
  split <;> simp

theorem State.chargeExposure_rolls (s : State) (o : Order) : (s.chargeExposure o).rolls = s.rolls := by
  unfold chargeExposure
  split <;> simp

/-- A completed exposure of the active order (R13, R90): charged, counted, and an advance asked for. -/
theorem State.completeExposure_eq {s : State} {o : Order} (h : s.activeOrder = some o) {moved : State}
    (hmoved : moved = ((s.recordFrame o .exposed o.frameRate).chargeExposure o).mapOrder o.id fun p =>
      p.progress (s.transport.roll.getD 0) s.transport.currentFrame false) :
    s.completeExposure =
      if moved.atLastFrame then (moved.requestAdvance o.id).advanceOutcome o.id false else moved.requestAdvance o.id := by
  subst hmoved
  rw [completeExposure, h]
  rfl

/-- Settles O47: the lamp put out, the frame recorded and charged, and the advance it asks for. -/
theorem exposureTimeEndCompletesTheFrame : Obligations.ExposureTimeEndCompletesTheFrame := by
  intro s o k step time e entry dark charged hstate hpurpose hlamp hactive he hentry hdark hcharged
  have hstep : (s.litFor (s.calibration.settle + time)).exposure.lamp.step = some k := by
    rw [State.litFor, State.withExposure_exposure, hlamp]
    rfl
  have hlit := State.endLighting_eq hstep
  have hexec : exec .exposureTimeEnd s = .next (s.endExposure time) := by
    change Host.Outcome.next _ = _
    rw [hstate, hpurpose]
  have hrecorded : ((s.litFor (s.calibration.settle + time)).endLighting.meterIdle).recordFrame o .exposed o.frameRate =
      dark := by
    rw [State.recordFrame_eq, hlit, hdark, hentry, he]
    rfl
  obtain ⟨moved, hmoved⟩ : ∃ moved, moved = charged.mapOrder o.id fun p =>
      p.progress (s.transport.roll.getD 0) s.transport.currentFrame false := ⟨_, rfl⟩
  have hcharge : charged = dark.chargeExposure o := hcharged
  have htransport : moved.transport = s.transport := by
    rw [hmoved, State.mapOrder_transport, hcharge, State.chargeExposure_transport, hdark]
  have husable : moved.usableFrames = dark.usableFrames := by
    refine State.usableFrames_congr (htransport.trans (by rw [hdark])) ?_
    rw [hmoved, State.mapOrder_rolls, hcharge, State.chargeExposure_rolls]
  have hover : s.endExposure time = if moved.atLastFrame then (moved.requestAdvance o.id).advanceOutcome o.id false
      else moved.requestAdvance o.id :=
    State.completeExposure_eq (s := (s.litFor (s.calibration.settle + time)).endLighting.meterIdle) hactive
      (by rw [hrecorded, hmoved, hcharge]; rfl)
  refine ⟨moved, hmoved, ?_⟩
  rw [hexec, hover, State.requestAdvance_eq, State.atLastFrame, husable, htransport]
  simp only [decide_eq_true_eq]
  refine congrArg Host.Outcome.next ?_
  split <;> rfl

end Sys2Proof.Machine
end


section
/-! PROOFS. Stored records: what an image is read back as (R139, R161, R162). -/

namespace Sys2Proof.Machine

/-! ## Fields read back -/

section
variable (n i : Nat) (rest : List Byte)

theorem byteAt_byteField : byteAt (byteField n ++ rest) 0 = n % 256 := rfl
theorem byteAt_byteField_succ : byteAt (byteField n ++ rest) (i + 1) = byteAt rest i := rfl
theorem byteAt_pairField_succ : byteAt (pairField n ++ rest) (i + 2) = byteAt rest i := rfl
theorem pairAt_byteField_succ : pairAt (byteField n ++ rest) (i + 1) = pairAt rest i := rfl
theorem pairAt_pairField_succ : pairAt (pairField n ++ rest) (i + 2) = pairAt rest i := rfl
theorem quadAt_byteField_succ : quadAt (byteField n ++ rest) (i + 1) = quadAt rest i := rfl
theorem quadAt_pairField_succ : quadAt (pairField n ++ rest) (i + 2) = quadAt rest i := rfl
theorem quadAt_quadField_succ : quadAt (quadField n ++ rest) (i + 4) = quadAt rest i := rfl

theorem pairAt_pairField : pairAt (pairField n ++ rest) 0 = n % 65536 := by
  change n / 256 % 256 * 256 + n % 256 = _
  omega

theorem quadAt_quadField : quadAt (quadField n ++ rest) 0 = n % 4294967296 := by
  have hhigh : pairAt (quadField n ++ rest) 0 = n / 65536 % 65536 := pairAt_pairField (n / 65536) (pairField n ++ rest)
  have hlow : pairAt (quadField n ++ rest) 2 = n % 65536 := pairAt_pairField n rest
  rw [quadAt, hhigh, hlow]
  omega

theorem signedByteAt_signedByteField {z : Int} (hlow : -128 ≤ z) (hhigh : z < 128) :
    signedByteAt (signedByteField z ++ rest) 0 = z := by
  change (BitVec.ofInt 8 z).toInt = z
  rw [BitVec.toInt_ofInt]
  exact Int.bmod_eq_of_le (by omega) (by omega)

theorem signedByteAt_pairField_succ : signedByteAt (pairField n ++ rest) (i + 2) = signedByteAt rest i := rfl
theorem byteAt_signedByteField_succ (z : Int) : byteAt (signedByteField z ++ rest) (i + 1) = byteAt rest i := rfl

end

/-! ## Judgements -/

theorem all_erased_iff (image : List Byte) :
    image.all (· = Config.erasedByte) = true ↔ image = List.replicate image.length Config.erasedByte := by
  simp [List.eq_replicate_iff]

/-- No place of a stored record's size reads erased: erased bytes would not sum to 90. -/
theorem not_all_erased {image : List Byte} (hsum : byteSum image = Config.placeSum) (hsize : image.length < 166) :
    ¬ image.all (· = Config.erasedByte) = true := by
  rw [all_erased_iff]
  intro herased
  have htotal : (byteSum image).toNat = 90 := by rw [hsum]; rfl
  rw [byteSum_toNat, herased] at htotal
  simp [Config.erasedByte] at htotal
  omega

/-- An image with its check byte is valid where its record is read back. -/
theorem judge_stored {α : Type} {read : List Byte → Option α} {fields : List Byte} {r : α} (hsize : fields.length < 165)
    (hread : read (withCheck 90 fields) = some r) : judge read (withCheck 90 fields) = .valid r := by
  have hsum : byteSum (withCheck 90 fields) = Config.placeSum := byteSum_withCheck 90 fields
  have hshort : (withCheck 90 fields).length < 166 := by
    rw [withCheck_length]
    omega
  rw [judge, if_neg (not_all_erased hsum hshort), if_neg (not_not.mpr hsum), hread]

theorem judge_erased {α : Type} (read : List Byte → Option α) (p : Nat) : judge read (erasedPlace p) = .blank := by
  rw [judge, if_pos ((all_erased_iff _).mpr (by simp [erasedPlace]))]

theorem judge_unsummed {α : Type} (read : List Byte → Option α) {image : List Byte} (hsum : byteSum image ≠ 90)
    (hwritten : ∃ b ∈ image, b ≠ 255) : judge read image = .damaged := by
  obtain ⟨b, hb, hne⟩ := hwritten
  have hnot : ¬ image.all (· = Config.erasedByte) = true := fun hall =>
    hne (of_decide_eq_true (List.all_eq_true.mp hall b hb))
  rw [judge, if_neg hnot]
  exact if_pos hsum

/-! ## The four kinds of record -/

theorem readCalibration_stored {c : StandCalibration} (h : c.inRange = true) :
    readCalibration (withCheck 90 c.fields) = some c := by
  have hread : (if c.inRange then some c else none) = some c := if_pos h
  have hrange := h
  simp only [StandCalibration.inRange, StandCalibration.settingsInRange, codesFall, List.all_cons, List.all_nil,
    Bool.and_eq_true, Bool.or_eq_true, decide_eq_true_eq, Bool.and_true] at hrange
  obtain ⟨heatLimit, settle, c0, c1, c2, c3, tmin, tmax, refCal, baseRed, baseGreen, baseBlue, e1, e2, e3⟩ := c
  have hpair {n : Nat} (hn : n ≤ 65535) : n % 65536 = n := Nat.mod_eq_of_lt (by omega)
  have hbyte {n : Nat} (hn : n ≤ 255) : n % 256 = n := Nat.mod_eq_of_lt (by omega)
  simp only at hrange
  simp only [readCalibration, withCheck, StandCalibration.fields, List.append_assoc, byteAt_byteField, byteAt_byteField_succ,
    byteAt_pairField_succ, pairAt_byteField_succ, pairAt_pairField_succ, pairAt_pairField]
  rw [hpair (n := heatLimit) (by omega), hpair (n := settle) (by omega), hbyte (n := c0) (by omega),
    hbyte (n := c1) (by omega), hbyte (n := c2) (by omega), hbyte (n := c3) (by omega), hpair (n := tmin) (by omega),
    hpair (n := tmax) (by omega), hpair (n := refCal) (by omega), hpair (n := baseRed) (by omega),
    hpair (n := baseGreen) (by omega), hpair (n := baseBlue) (by omega), hbyte (n := e1) (by omega),
    hbyte (n := e2) (by omega), hbyte (n := e3) (by omega)]
  exact hread

theorem readFilmKind_stored {f : FilmKind} (h : f.inRange = true) : readFilmKind (withCheck 90 f.fields) = some f := by
  have hrange := h
  rw [FilmKind.inRange, Bool.and_eq_true, FilmKind.figuresInRange_iff] at hrange
  have hread : filmKindAt (withCheck 90 f.fields) 0 = f := by
    simp only [filmKindAt, withCheck, FilmKind.fields, List.append_assoc, Nat.zero_add, pairAt_pairField,
      signedByteAt_pairField_succ, byteAt_byteField, byteAt_byteField_succ, byteAt_pairField_succ,
      byteAt_signedByteField_succ]
    rw [signedByteAt_signedByteField _ (by omega) (by omega)]
    obtain ⟨tref, c, wr, wg, wb, frames⟩ := f
    simp only [FilmKind.mk.injEq, true_and] at hrange ⊢
    omega
  rw [readFilmKind, hread, if_pos h]

theorem readRateCard_stored {r : RateCard} (hsetup : r.setup < 65536) (h0 : r.frame0 < 65536) (h1 : r.frame1 < 65536)
    (h2 : r.frame2 < 65536) (h3 : r.frame3 < 65536) (hlabel : r.label < 65536) :
    readRateCard (withCheck 90 r.fields) = some r := by
  simp only [readRateCard, rateCardAt, withCheck, RateCard.fields, List.append_assoc, Nat.zero_add, pairAt_pairField_succ,
    pairAt_pairField, Nat.mod_eq_of_lt, hsetup, h0, h1, h2, h3, hlabel]

theorem Account.inRange_iff (a : Account) : a.inRange = true ↔
    1 ≤ a.number ∧ a.number ≤ 9999 ∧ a.allowance ≤ 9999999 ∧ a.warn ≤ 9999999 ∧ a.spent ≤ a.allowance := by
  simp only [inRange, Bool.and_eq_true, decide_eq_true_eq, and_assoc]
  rfl

theorem readAccount_stored {a : Account} (h : a.inRange = true) :
    readAccount (withCheck 90 a.fields) = some { a with held := 0, damaged := false } := by
  obtain ⟨hlow, hhigh, hallowance, hwarn, hspent⟩ := (a.inRange_iff).mp h
  have hpair : pairAt (withCheck 90 a.fields) 0 = a.number ∧ pairAt (withCheck 90 a.fields) 2 = 65535 - a.number := by
    simp only [withCheck, Account.fields, List.append_assoc, pairAt_pairField_succ, pairAt_pairField]
    omega
  have hquads : quadAt (withCheck 90 a.fields) 5 = a.allowance ∧ quadAt (withCheck 90 a.fields) 9 = a.warn ∧
      quadAt (withCheck 90 a.fields) 13 = a.spent := by
    simp only [withCheck, Account.fields, List.append_assoc, flagField_eq, quadAt_pairField_succ, quadAt_byteField_succ,
      quadAt_quadField_succ, quadAt_quadField]
    omega
  have hstate : byteAt (withCheck 90 a.fields) 4 = if a.suspended then 1 else 0 := by
    simp only [withCheck, Account.fields, List.append_assoc, flagField_eq, byteAt_pairField_succ, byteAt_byteField]
    split <;> rfl
  obtain ⟨hnumber, hsecond⟩ := hpair
  obtain ⟨hreadAllowance, hreadWarn, hreadSpent⟩ := hquads
  have hreadable : (readableNumber (withCheck 90 a.fields)).isSome = true := by
    rw [readableNumber, if_pos ⟨by omega, by omega, by rw [hnumber]; exact hhigh⟩]
    rfl
  have hinRange : ({ a with held := 0, damaged := false } : Account).inRange = true := h
  have hflag : decide ((if a.suspended = true then 1 else 0) = 1) = a.suspended ∧
      (if a.suspended = true then 1 else 0) ≤ 1 := by
    cases a.suspended <;> decide
  simp only [readAccount, hreadable, hnumber, hstate, hreadAllowance, hreadWarn, hreadSpent, hflag, hinRange, decide_true,
    Bool.and_self, if_true]

/-! ## Damaged account places -/

theorem accountOf_damaged {image : List Byte} (h : judge readAccount image = .damaged) : accountOf image =
    if pairAt image 0 + pairAt image 2 = 65535 ∧ 1 ≤ pairAt image 0 ∧ pairAt image 0 ≤ 9999 then
      some (damagedAccount (pairAt image 0))
    else none := by
  simp only [accountOf, h, readableNumber, apply_ite (Option.map damagedAccount), Option.map_some, Option.map_none]
  rfl

/-- Settles O45: each kind of record read back, the erased places and the damaged ones. -/
theorem storedRecordsRoundTrip : Obligations.StoredRecordsRoundTrip := by
  refine ⟨fun c hc => ⟨by simp [StandCalibration.fields], judge_stored (by simp [StandCalibration.fields]) (readCalibration_stored hc)⟩,
    fun f hf => ⟨by simp [FilmKind.fields], judge_stored (by simp [FilmKind.fields]) (readFilmKind_stored hf)⟩,
    fun r hsetup h0 h1 h2 h3 hlabel =>
      ⟨by simp [RateCard.fields], judge_stored (by simp [RateCard.fields]) (readRateCard_stored hsetup h0 h1 h2 h3 hlabel)⟩,
    fun a ha => ?_,
    fun p _ => ⟨judge_erased _ p, judge_erased _ p, judge_erased _ p, judge_erased _ p⟩,
    fun image hsum hwritten => ?_⟩
  · have hjudged : judge readAccount (withCheck 90 a.fields) = .valid { a with held := 0, damaged := false } :=
      judge_stored (by simp [Account.fields]) (readAccount_stored ha)
    exact ⟨by simp [Account.fields], hjudged, by rw [accountOf, hjudged]⟩
  · have hdamaged {α : Type} (read : List Byte → Option α) : judge read image = .damaged := judge_unsummed read hsum hwritten
    exact ⟨hdamaged _, hdamaged _, hdamaged _, hdamaged _, accountOf_damaged (hdamaged _)⟩

end Sys2Proof.Machine
end


section
/-! PROOFS. The Label Unit's requests, and the label of an entry. -/

namespace Sys2Proof.Machine

/-! ## Set Library Mark (R119) -/

theorem exec_setLibraryMark (body : List Byte) (s : State) :
    exec (.setLibraryMark body) s = .next (s.arrive 7 body) := rfl

theorem exec_setLibraryMark_eq {n : Byte} {text : List Byte} {s : State} (h : s.free) (hlength : text.length = n.toNat)
    (hfits : text.length ≤ 62) : exec (.setLibraryMark (n :: text)) s = .next
      (if n.toNat = 0 ∨ 8 < n.toNat then s.answered 7 .outOfRange []
       else if s.labels.locked = true then s.answered 7 .locked []
       else (s.withLabels { s.labels with mark := some (storedText text) }).answered 7 .done (n :: storedText text)) := by
  have hok : lengthOk 7 (n :: text) = true := by
    have hbyte : byteAt (n :: text) 0 = n.toNat := rfl
    have hmark : markLengthOk (n :: text) = true := by simp [markLengthOk, hbyte, hlength, Nat.add_comm]
    exact hmark
  have hbody : (n :: text).length ≤ Config.maxBody := Nat.succ_le_succ hfits
  have hreply : textField (storedText text) = n :: storedText text := by
    simp [textField, byteField, storedText, hlength]
  have howner : serveChecked 7 (n :: text) s.frameDone =
      if n.toNat = 0 ∨ 8 < n.toNat then s.frameDone.refuse .outOfRange
      else if s.labels.locked = true then s.frameDone.refuse .locked
      else (s.frameDone.withLabels { s.labels with mark := some (storedText text) }).answer (n :: storedText text) := by
    change serveSetLibraryMark (n :: text) s.frameDone = _
    simp only [serveSetLibraryMark, List.drop_succ_cons, List.drop_zero, hlength, hreply, Bool.or_eq_true, decide_eq_true_eq,
      gt_iff_lt]
    rfl
  rw [exec_setLibraryMark]
  exact congrArg Host.Outcome.next <|
    State.arrive_eq_ite_refused h rfl hok hbody howner fun howner =>
    State.arrive_eq_ite_refused h rfl hok hbody howner fun howner =>
    State.arrive_eq_answered (t := s.frameDone.withLabels _) h rfl hok hbody howner rfl

/-! ## Label Status (R136) -/

/-- The Label Unit's report in the layout of 12.5. -/
theorem LabelUnit.report_eq (l : LabelUnit) : l.report =
    byteField l.printer.code ++ byteField l.printer.causeCode ++ byteField l.queue.length ++
      (match l.queue with
        | [] => [0, 0, 0, 0, 0, 0]
        | e :: _ => [1] ++ pairField e.roll ++ byteField e.frame ++ pairField e.order) ++
      [if l.stockHigh then 1 else 0] ++ [if l.faultHigh then 1 else 0] ++
      (match l.printer with
        | .sending label i => byteField i ++ byteField label.length
        | .idle | .feeding _ _ | .stockOut | .faulted _ => [0, 0]) ++
      byteField (l.mark.getD []).length ++ l.mark.getD [] ++ [if l.locked then 1 else 0] := by
  have hhead : headReport l.queue = match l.queue with
      | [] => [0, 0, 0, 0, 0, 0]
      | e :: _ => [1] ++ pairField e.roll ++ byteField e.frame ++ pairField e.order := by
    cases l.queue <;> rfl
  have hprogress : l.printer.progress = match l.printer with
      | .sending label i => byteField i ++ byteField label.length
      | .idle | .feeding _ _ | .stockOut | .faulted _ => [0, 0] := by
    cases l.printer <;> rfl
  rw [← hhead, ← hprogress]
  simp only [report, textField, flagField, List.append_assoc]

/-! ## Resume Printer (R135) -/

/-- A request without a body that its owner answers. -/
theorem exec_resumePrinter {s t : State} {result : Result} {reply : List Byte} (h : s.free)
    (howner : serveResumePrinter [] s.frameDone = (⟨result, reply⟩, t)) (hline : t.line = s.frameDone.line) :
    exec (.resumePrinter []) s = .next (t.answered 65 result reply) :=
  congrArg Host.Outcome.next (State.arrive_eq_answered (kind := 65) h rfl rfl (Nat.zero_le _) howner hline)

theorem serveResumePrinter_quiet {s : State} (h : s.labels.printer.alarmed = false) (body : List Byte) :
    serveResumePrinter body s = s.answer (byteField s.labels.printer.code) := by
  unfold serveResumePrinter
  split <;> simp_all [Printer.alarmed]

theorem serveResumePrinter_alarmed {s : State} (h : s.labels.printer.alarmed = true) (body : List Byte) :
    serveResumePrinter body s =
      if s.labels.stockHigh && s.labels.faultHigh then
        s.printerIdle.answer (byteField s.printerIdle.labels.printer.code)
      else (⟨.wrongState, byteField s.labels.printer.code⟩, s) := by
  unfold serveResumePrinter
  split <;> simp_all [Printer.alarmed]

theorem State.printerIdle_of_nil {s : State} (h : s.labels.queue = []) :
    s.printerIdle = s.withLabels (s.labels.enter .idle) := by
  simp [printerIdle, beginPrinting, h]

/-- Resume Printer with both lines high (R135): at rest, or with the head entry's label begun. -/
theorem exec_resumePrinter_high {s : State} (h : s.free) (halarmed : s.labels.printer.alarmed = true)
    (hstock : s.labels.stockHigh = true) (hfault : s.labels.faultHigh = true) :
    exec (.resumePrinter []) s = .next (match s.labels.queue with
      | [] => (s.withLabels (s.labels.enter .idle)).answered 65 .done [0]
      | e :: _ => (s.withLabels (s.labels.beginLabel (s.composeLabel e))).answered 65 .done [1]) := by
  have howner := serveResumePrinter_alarmed (s := s.frameDone) halarmed []
  have hhigh : (s.frameDone.labels.stockHigh && s.frameDone.labels.faultHigh) = true := by
    change (s.labels.stockHigh && s.labels.faultHigh) = true
    rw [hstock, hfault]
    rfl
  rw [if_pos hhigh] at howner
  cases hqueue : s.labels.queue with
  | nil =>
    rw [State.printerIdle_of_nil (s := s.frameDone) hqueue] at howner
    exact exec_resumePrinter (t := s.frameDone.withLabels (s.labels.enter .idle)) h howner rfl
  | cons e rest =>
    rw [State.printerIdle_of_cons (s := s.frameDone) hqueue, State.withLabels_labels, LabelUnit.beginLabel_printer] at howner
    exact exec_resumePrinter (t := s.frameDone.withLabels (s.labels.beginLabel (s.composeLabel e))) h howner rfl

/-! ## The label of an entry (R123 to R126) -/

theorem digit_toNat (n : Nat) : (digit n).toNat = 48 + n % 10 := by
  rw [digit, BitVec.toNat_ofNat]
  omega

/-- Five digits read back as the number. -/
theorem digits_roll {n : Nat} (h : n < 65536) :
    [digit (n / 10000), digit (n / 1000), digit (n / 100), digit (n / 10), digit n].foldl
      (fun m (c : Byte) => 10 * m + (c.toNat - 48)) 0 = n := by
  simp only [List.foldl_cons, List.foldl_nil, digit_toNat]
  omega

/-- Two digits read back as the number. -/
theorem digits_frame {n : Nat} (h : n ≤ 40) :
    [digit (n / 10), digit n].foldl (fun m (c : Byte) => 10 * m + (c.toNat - 48)) 0 = n := by
  simp only [List.foldl_cons, List.foldl_nil, digit_toNat]
  omega

/-- The bracket mark: the sign, the whole stops and the tenths rounded to nearest (R126). -/
theorem bracketMark_toNat {offset : Int} (hlow : -24 ≤ offset) (hhigh : offset ≤ 24) :
    (bracketMark offset).map BitVec.toNat =
      [if 0 < offset then 43 else if offset < 0 then 45 else 32, 48 + offset.natAbs / 8, 46,
        48 + (offset.natAbs % 8 * 10 + 4) / 8] := by
  have hwhole : offset.natAbs / 8 % 10 = offset.natAbs / 8 := by omega
  have htenths : (offset.natAbs % 8 * 10 + 4) / 8 % 10 = (offset.natAbs % 8 * 10 + 4) / 8 := by omega
  have hsign : (if offset > 0 then (43 : Byte) else if offset < 0 then 45 else 32).toNat =
      if 0 < offset then 43 else if offset < 0 then 45 else 32 := by
    split_ifs <;> rfl
  simp only [bracketMark, List.map_cons, List.map_nil, digit_toNat, hwhole, htenths, hsign]
  rfl

/-- The label of an entry whose order and roll are in their tables (R123 to R125). -/
theorem State.composeLabel_eq {s : State} {e : LabelEntry} {o : Order} {r : Roll} {f : Frame} {date mark : Text}
    (hmark : s.labels.mark = some mark) (horder : s.findOrder e.order = some o) (hroll : s.findRoll e.roll = some r)
    (hstate : r.state = .keepReported date) (hframe : e.frame ≠ 0) (hentry : r.frames[e.frame - 1]? = some f) :
    s.composeLabel e = labelBytes mark o.catalogue o.title date e.roll e.frame f.offset := by
  simp [composeLabel, hmark, horder, hroll, hstate, RollState.date, Roll.frame, hframe, hentry]

/-- Settles O58: the three requests, and the label line by line. -/
theorem labelRequestsAndLabels : Obligations.LabelRequestsAndLabels := by
  refine ⟨?_, ?_, by decide⟩
  · rintro n text s l hfree rfl hlength hfits
    refine ⟨exec_setLibraryMark_eq hfree hlength hfits, ?_, fun hquiet => ?_,
      fun halarm => ⟨fun hlow => ?_, fun hstock hfault => ?_⟩⟩
    · have hstatus : exec (.labelStatus []) s = .next (s.answered 64 .done s.labels.report) :=
        congrArg Host.Outcome.next (State.arrive_eq_answered (kind := 64) (t := s.frameDone) hfree rfl rfl
          (Nat.zero_le _) rfl rfl)
      exact hstatus.trans (congrArg (fun report => Host.Outcome.next (s.answered 64 .done report)) s.labels.report_eq)
    · have hnone : s.labels.printer.alarmed = false := by
        obtain h | ⟨label, i, h⟩ | ⟨label, i, h⟩ := hquiet <;> rw [h] <;> rfl
      exact exec_resumePrinter (t := s.frameDone) hfree (serveResumePrinter_quiet (s := s.frameDone) hnone []) rfl
    · have halarmed : s.labels.printer.alarmed = true := by
        obtain h | ⟨cause, h⟩ := halarm <;> rw [h] <;> rfl
      have hline : ¬ (s.labels.stockHigh && s.labels.faultHigh) = true := by
        obtain h | h := hlow <;> simp [h]
      exact exec_resumePrinter (t := s.frameDone) hfree
        ((serveResumePrinter_alarmed (s := s.frameDone) halarmed []).trans (if_neg hline)) rfl
    · have halarmed : s.labels.printer.alarmed = true := by
        obtain h | ⟨cause, h⟩ := halarm <;> rw [h] <;> rfl
      exact exec_resumePrinter_high hfree halarmed hstock hfault
  · intro s e o r f date mark hmark horder hroll hstate hframe hentry
    refine ⟨[digit (e.roll / 10000), digit (e.roll / 1000), digit (e.roll / 100), digit (e.roll / 10), digit e.roll],
      [digit (e.frame / 10), digit e.frame], bracketMark f.offset,
      State.composeLabel_eq hmark horder hroll hstate hframe hentry, rfl, rfl, rfl, fun c hc => ?_, digits_roll,
      digits_frame, fun hlow hhigh => ⟨_, _, bracketMark_toNat hlow hhigh, rfl, ?_, ?_, ?_⟩,
      fun hmark1 hmark8 hcat1 hcat14 hdate => ?_⟩
    · obtain ⟨n, rfl⟩ : ∃ n, c = digit n := by
        simp only [List.mem_append, List.mem_cons, List.not_mem_nil, or_false] at hc
        obtain (rfl | rfl | rfl | rfl | rfl) | rfl | rfl := hc <;> exact ⟨_, rfl⟩
      rw [digit_toNat]
      omega
    · omega
    · omega
    · omega
    · have hbracket : (bracketMark f.offset).length = 4 := rfl
      rw [State.composeLabel_eq hmark horder hroll hstate hframe hentry]
      simp only [labelBytes, labelLine3, List.length_append, List.length_cons, List.length_nil, List.length_take, hbracket,
        hdate]
      omega

end Sys2Proof.Machine
end


section
/-! PROOFS. Account Report, Close Account and Reset Period (R156 to R158). -/

namespace Sys2Proof.Machine

/-! ## What the write engine leaves -/

@[simp] theorem State.startWrite_places (s : State) : s.startWrite.store.places = s.store.places := by
  unfold startWrite
  split <;> rfl

@[simp] theorem State.markDirty_places (s : State) (place : Nat) : (s.markDirty place).store.places = s.store.places :=
  (startWrite_places _).trans rfl

@[simp] theorem State.markAccount_places (s : State) (n : Nat) : (s.markAccount n).store.places = s.store.places := by
  unfold markAccount
  split <;> simp

@[simp] theorem State.noteLow_places (s : State) (before after : Bool) :
    (s.noteLow before after).store.places = s.store.places := by
  rw [noteLow_eq]
  rfl

@[simp] theorem State.changeAccount_places (s : State) (n : Nat) (f : Account → Account) :
    (s.changeAccount n f).store.places = s.store.places := by
  unfold changeAccount
  split
  · rfl
  · rw [noteLow_places]
    split
    · exact markAccount_places (s.mapAccount n f) n
    · rfl

/-- A change of an account's amounts that raises no low mark reaches its record and the store alone. -/
theorem State.changeAccount_exists_store {f : Account → Account} (hlow : ∀ a, (f a).low = true → a.low = true) (s : State)
    (n : Nat) : ∃ store, s.changeAccount n f = (s.mapAccount n f).withStore store := by
  unfold changeAccount
  split
  next hnone =>
    rw [mapAccount_of_findAccount_eq_none hnone]
    exact ⟨s.store, rfl⟩
  next a _ =>
    have hquiet : (!a.low && (f a).low) = false := by
      by_cases hnow : (f a).low = true
      · simp [hlow a hnow]
      · simp [hnow]
    rw [noteLow, hquiet, if_neg Bool.false_ne_true]
    split
    · rw [markAccount]
      split
      · exact ⟨_, markDirty_eq_store _ _⟩
      · exact ⟨s.store, rfl⟩
    · exact ⟨s.store, rfl⟩

/-! ## Reset Period: the accounts, one after the other -/

/-- An account whose period has been reset (R157). -/
def Account.cleared (a : Account) : Account := { a with spent := 0 }

/-- An account after the numbers of a list have been reset. -/
def Account.clearedIn (numbers : List Nat) (a : Account) : Account := if a.number ∈ numbers then a.cleared else a

theorem Account.clearedIn_number (numbers : List Nat) (a : Account) : (a.clearedIn numbers).number = a.number := by
  unfold clearedIn
  split <;> rfl

theorem Account.low_of_cleared {a : Account} (h : a.cleared.low = true) : a.low = true := by
  rw [low_iff] at h ⊢
  simp only [available, cleared] at h ⊢
  omega

/-- The numbers reset one after the other: their accounts' spent, and the store. -/
theorem State.resetSpent_exists_store (s : State) (numbers : List Nat) : ∃ store, store.places = s.store.places ∧
    s.resetSpent numbers = { s with
      accounts := { s.accounts with slots := s.accounts.slots.map (Option.map (Account.clearedIn numbers)) }
      store := store } := by
  induction numbers generalizing s with
  | nil =>
    have hsame : Option.map (Account.clearedIn []) = id := by
      funext slot
      cases slot <;> rfl
    exact ⟨s.store, rfl, by rw [hsame, List.map_id]; rfl⟩
  | cons n rest ih =>
    obtain ⟨first, hfirst⟩ := s.changeAccount_exists_store (f := Account.cleared) (fun _ => Account.low_of_cleared) n
    have hplaces : first.places = s.store.places := by
      rw [← s.changeAccount_places n Account.cleared, hfirst]
      rfl
    obtain ⟨store, hkept, hrest⟩ := ih (s.changeAccount n Account.cleared)
    refine ⟨store, hkept.trans (by simp), ?_⟩
    have hboth : ((s.mapAccount n Account.cleared).accounts.slots.map (Option.map (Account.clearedIn rest))) =
        s.accounts.slots.map (Option.map (Account.clearedIn (n :: rest))) := by
      rw [mapAccount_slots, List.map_map]
      refine List.map_congr_left fun slot _ => ?_
      cases slot with
      | none => rfl
      | some a =>
        by_cases hn : a.number = n <;> by_cases hr : a.number ∈ rest <;>
          simp [Account.clearedIn, Account.cleared, hn, hr]
    change (s.changeAccount n Account.cleared).resetSpent rest = _
    rw [hrest, hfirst]
    change { s with accounts := _, store := store } = _
    rw [← hboth]
    rfl

theorem AccountTable.accounts_map (t : AccountTable) (f : Account → Account) :
    ({ t with slots := t.slots.map (Option.map f) }).accounts = t.accounts.map f := by
  simp only [accounts, List.filterMap_map, List.map_filterMap]
  rfl

/-- A Reset Period of accounts that spent nothing leaves the store as it was (R146). -/
theorem State.resetSpent_store {s : State} {numbers : List Nat}
    (h : ∀ a, some a ∈ s.accounts.slots → a.number ∈ numbers → a.spent = 0) : (s.resetSpent numbers).store = s.store := by
  induction numbers generalizing s with
  | nil => rfl
  | cons n rest ih =>
    have hfirst : s.changeAccount n Account.cleared = s.mapAccount n Account.cleared := by
      cases hfound : s.findAccount n with
      | none => rw [mapAccount_of_findAccount_eq_none hfound, changeAccount, hfound]
      | some a =>
        have hspent : a.spent = 0 := h a (mem_accounts.mp (mem_accounts_of_findAccount hfound))
          (by simp [findAccount_number hfound])
        have hcleared : a.cleared = a := by
          obtain ⟨number, suspended, allowance, warn, spent, held, damaged⟩ := a
          obtain rfl : spent = 0 := hspent
          rfl
        simp [changeAccount, hfound, hcleared, noteLow]
    change ((s.changeAccount n Account.cleared).resetSpent rest).store = s.store
    rw [hfirst, ih ?_]
    · rfl
    · intro a ha hrest
      rw [mapAccount_slots] at ha
      obtain ⟨slot, hslot, hmapped⟩ := List.mem_map.mp ha
      obtain ⟨b, rfl, hb⟩ := Option.map_eq_some_iff.mp hmapped
      by_cases hn : b.number = n
      · rw [if_pos hn] at hb
        rw [← hb]
        rfl
      · rw [if_neg hn] at hb
        subst hb
        exact h b hslot (List.mem_cons_of_mem _ hrest)

/-! ## Reset Period: slot by slot -/

section
variable {s : State}

theorem State.numbers_distinct (h : (s.accounts.accounts.map Account.number).Nodup) {i j : Nat} {a b : Account}
    (hij : i ≠ j) (ha : s.accounts.slots[i]? = some (some a)) (hb : s.accounts.slots[j]? = some (some b)) :
    a.number ≠ b.number := by
  have hpairs : s.accounts.slots.Pairwise fun x y => ∀ a, x = some a → ∀ b, y = some b → a.number ≠ b.number :=
    List.pairwise_filterMap.mp (List.pairwise_map.mp h)
  have hordered {i j : Nat} {a b : Account} (hlt : i < j) (ha : s.accounts.slots[i]? = some (some a))
      (hb : s.accounts.slots[j]? = some (some b)) : a.number ≠ b.number := by
    obtain ⟨hi, hgeti⟩ := List.getElem?_eq_some_iff.mp ha
    obtain ⟨hj, hgetj⟩ := List.getElem?_eq_some_iff.mp hb
    exact List.pairwise_iff_getElem.mp hpairs i j hi hj hlt a hgeti b hgetj
  obtain hlt | hgt := Nat.lt_or_gt_of_ne hij
  · exact hordered hlt ha hb
  · exact (hordered hgt hb ha).symm

theorem State.mapAccount_eq_withSlot (h : (s.accounts.accounts.map Account.number).Nodup) {i : Nat} {a : Account}
    (hat : s.accounts.slots[i]? = some (some a)) (f : Account → Account) :
    s.mapAccount a.number f = s.withSlot i (some (f a)) := by
  have hslots : (s.mapAccount a.number f).accounts.slots = s.accounts.slots.set i (some (f a)) := by
    rw [mapAccount_slots]
    refine List.ext_getElem? fun j => ?_
    rw [List.getElem?_map, List.getElem?_set]
    by_cases hij : i = j
    · subst hij
      rw [hat, if_pos rfl, if_pos (List.getElem?_eq_some_iff.mp hat).1]
      simp
    · rw [if_neg hij]
      cases hb : s.accounts.slots[j]? with
      | none => rfl
      | some slot =>
        cases slot with
        | none => rfl
        | some b => simp [(numbers_distinct h hij hat hb).symm]
  exact congrArg (fun slots => s.withAccounts { s.accounts with slots := slots }) hslots

/-- One account reset, told by its slot. -/
theorem State.changeAccount_cleared_eq (h : (s.accounts.accounts.map Account.number).Nodup) {i : Nat} {a : Account}
    (hat : s.accounts.slots[i]? = some (some a)) : s.changeAccount a.number Account.cleared =
      if a.spent ≠ 0 then (s.withSlot i (some a.cleared)).markDirty (6 + i) else s := by
  obtain ⟨hfound, hslot⟩ := findAccount_and_slotOf hat rfl fun j b hj hb =>
    (numbers_distinct h (Nat.ne_of_gt hj) hat hb).symm
  rw [changeAccount_of_found (f := Account.cleared) (fun _ => rfl) hfound hslot Account.low_of_cleared,
    mapAccount_eq_withSlot h hat]
  by_cases hspent : a.spent = 0
  · have hcleared : a.cleared = a := by
      obtain ⟨number, suspended, allowance, warn, spent, held, damaged⟩ := a
      obtain rfl : spent = 0 := hspent
      rfl
    have hsame : s.accounts.slots.set i (some a) = s.accounts.slots := by
      obtain ⟨hlt, hget⟩ := List.getElem?_eq_some_iff.mp hat
      rw [← hget, List.set_getElem_self]
    rw [hcleared, if_neg (not_not.mpr rfl), if_neg (not_not.mpr hspent), withSlot, hsame]
    rfl
  · have hchanged : a.cleared.spent ≠ a.spent := Ne.symm hspent
    rw [if_pos hchanged, if_pos hspent]

end

/-- A slot's account reset where the number asks for it, its place marked dirty where spent changed. -/
def State.resetSlot (number : Nat) (v : State) (i : Nat) : State :=
  match v.accounts.slots[i]? with
  | some (some a) =>
    if (number = 0 ∨ a.number = number) ∧ a.spent ≠ 0 then (v.withSlot i (some a.cleared)).markDirty (6 + i) else v
  | _ => v

/-- The numbers a Reset Period names among the accounts of the slots below one. -/
def State.numbersBelow (s : State) (number k : Nat) : List Nat :=
  (((s.accounts.slots.take k).filterMap id).map Account.number).filter fun n => number = 0 ∨ n = number

theorem State.foldl_resetSlot {s : State} (h : (s.accounts.accounts.map Account.number).Nodup) (number : Nat) {k : Nat}
    (hk : k ≤ s.accounts.slots.length) :
    (List.range k).foldl (State.resetSlot number) s = s.resetSpent (s.numbersBelow number k) := by
  induction k with
  | zero => simp [numbersBelow, resetSpent]
  | succ k ih =>
    rw [List.range_succ, List.foldl_append, ih (Nat.le_of_succ_le hk), List.foldl_cons, List.foldl_nil]
    obtain ⟨store, -, hv⟩ := s.resetSpent_exists_store (s.numbersBelow number k)
    obtain ⟨slot, hslot⟩ : ∃ slot, s.accounts.slots[k]? = some slot := ⟨_, List.getElem?_eq_getElem hk⟩
    have hbelow : s.numbersBelow number (k + 1) = s.numbersBelow number k ++
        ((slot.toList.map Account.number).filter fun n => number = 0 ∨ n = number) := by
      simp only [numbersBelow, List.take_add_one, hslot, Option.toList_some, List.filterMap_append, List.map_append,
        List.filter_append]
      cases slot <;> rfl
    have hat : (s.resetSpent (s.numbersBelow number k)).accounts.slots[k]? =
        some (slot.map (Account.clearedIn (s.numbersBelow number k))) := by
      rw [hv]
      simp [hslot]
    rw [hbelow]
    cases slot with
    | none => simp [resetSlot, hat]
    | some a =>
      have hfresh : a.number ∉ s.numbersBelow number k := by
        intro hmem
        obtain ⟨b, hb, hnumber⟩ := List.mem_map.mp (List.mem_of_mem_filter hmem)
        obtain ⟨j, hj⟩ := List.mem_iff_getElem?.mp (by simpa using hb : some b ∈ s.accounts.slots.take k)
        rw [List.getElem?_take] at hj
        split_ifs at hj with hlt
        exact numbers_distinct h (Nat.ne_of_lt hlt) hj hslot hnumber
      have hkept : (s.resetSpent (s.numbersBelow number k)).accounts.slots[k]? = some (some a) := by
        rw [hat, Option.map_some, Account.clearedIn, if_neg hfresh]
      have hdistinct : ((s.resetSpent (s.numbersBelow number k)).accounts.accounts.map Account.number).Nodup := by
        rw [hv]
        simpa [AccountTable.accounts_map, Function.comp_def, Account.clearedIn_number] using h
      simp only [resetSlot, hkept]
      by_cases hnamed : number = 0 ∨ a.number = number
      · have hstep : s.resetSpent (s.numbersBelow number k ++
            (((some a).toList.map Account.number).filter fun n => number = 0 ∨ n = number)) =
            (s.resetSpent (s.numbersBelow number k)).changeAccount a.number Account.cleared := by
          simp only [resetSpent, Option.toList_some, List.map_cons, List.map_nil, hnamed, decide_true,
            List.filter_cons_of_pos, List.filter_nil, List.foldl_append, List.foldl_cons, List.foldl_nil]
          rfl
        rw [hstep, changeAccount_cleared_eq hdistinct hkept]
        exact if_congr (and_iff_right hnamed) rfl rfl
      · simp [hnamed]

/-- The numbers a Reset Period resets: all, or the one named. -/
def State.namedNumbers (s : State) (number : Nat) : List Nat :=
  if number = 0 then s.accounts.accounts.map Account.number else [number]

theorem State.mem_namedNumbers {s : State} {number : Nat} {a : Account} (h : some a ∈ s.accounts.slots) :
    a.number ∈ s.namedNumbers number ↔ number = 0 ∨ a.number = number := by
  unfold namedNumbers
  split
  next hzero => simp only [hzero, true_or, List.mem_map_of_mem (mem_accounts.mpr h)]
  next hzero => simp [hzero]

/-- All slots' accounts, or the one account of a number, reset slot by slot. -/
theorem State.resetSpent_eq_foldl {s : State} (h : (s.accounts.accounts.map Account.number).Nodup)
    (hslots : s.accounts.slots.length = 32) {number : Nat} (hknown : number = 0 ∨ s.findAccount number ≠ none) :
    s.resetSpent (s.namedNumbers number) = (List.range 32).foldl (State.resetSlot number) s := by
  have hbelow : s.numbersBelow number 32 = s.namedNumbers number := by
    rw [numbersBelow, namedNumbers, List.take_of_length_le hslots.le]
    change (s.accounts.accounts.map Account.number).filter _ = _
    by_cases hzero : number = 0
    · simp [hzero]
    · have hmem : number ∈ s.accounts.accounts.map Account.number :=
        findAccount_isSome_iff.mp (Option.isSome_iff_ne_none.mpr (hknown.resolve_left hzero))
      have honly := List.filter_beq (l := s.accounts.accounts.map Account.number) number
      rw [List.count_eq_one_of_mem h hmem] at honly
      simp only [hzero, false_or, if_false]
      exact honly
  rw [foldl_resetSlot h number hslots.ge, hbelow]

/-! ## The three requests -/

section
variable {s t : State} {b1 b2 : Byte} {kind : Nat} {result : Result} {reply : List Byte}

/-- A request of one number that its owner answers. -/
theorem State.arrive_number (h : s.free) (hkind : isRequestKind kind = true) (hfixed : fixedLength kind = some 2)
    (himplied : hasImpliedLength kind = false) (howner : serveChecked kind [b1, b2] s.frameDone = (⟨result, reply⟩, t))
    (hline : t.line = s.frameDone.line) : s.arrive kind [b1, b2] = t.answered kind result reply :=
  arrive_eq_answered h hkind (lengthOk_of_fixedLength hfixed himplied rfl) (by simp [Config.maxBody]) howner hline

theorem exec_accountReport_answered (h : s.free)
    (howner : serveAccountReport [b1, b2] s.frameDone = (⟨result, reply⟩, s.frameDone)) :
    exec (.accountReport [b1, b2]) s = .next (s.answered 81 result reply) :=
  congrArg Host.Outcome.next (State.arrive_number (t := s.frameDone) h rfl rfl rfl howner rfl)

theorem exec_closeAccount_answered (h : s.free)
    (howner : serveCloseAccount [b1, b2] s.frameDone = (⟨result, reply⟩, t)) (hline : t.line = s.frameDone.line) :
    exec (.closeAccount [b1, b2]) s = .next (t.answered 82 result reply) :=
  congrArg Host.Outcome.next (State.arrive_number h rfl rfl rfl howner hline)

theorem exec_resetPeriod_answered (h : s.free)
    (howner : serveResetPeriod [b1, b2] s.frameDone = (⟨result, reply⟩, t)) (hline : t.line = s.frameDone.line) :
    exec (.resetPeriod [b1, b2]) s = .next (t.answered 83 result reply) :=
  congrArg Host.Outcome.next (State.arrive_number h rfl rfl rfl howner hline)

end

theorem Account.flagByte_eq (a : Account) : a.flagByte = (if a.suspended then 1 else 0) +
    (if a.allowance - a.spent - a.held < a.warn then 2 else 0) + (if a.damaged then 4 else 0) := by
  simp only [flagByte, flagBit, low_iff, available]

/-- The account requests with a number above every account's. -/
theorem serve_account_outOfRange {body : List Byte} (h : 9999 < pairAt body 0) (s : State) :
    serveAccountReport body s = s.refuse .outOfRange ∧ serveCloseAccount body s = s.refuse .outOfRange ∧
      serveResetPeriod body s = s.refuse .outOfRange := by
  have hover : pairAt body 0 > Config.maxAccount := h
  simp [serveAccountReport, serveCloseAccount, serveResetPeriod, hover]

section
variable {body : List Byte} {s : State}

theorem serveAccountReport_summary (h : pairAt body 0 = 0) :
    serveAccountReport body s = s.answer (s.accounts.slots.flatMap slotSummary) := by
  simp [serveAccountReport, h]

theorem serveCloseAccount_zero (h : pairAt body 0 = 0) : serveCloseAccount body s = s.refuse .outOfRange := by
  simp [serveCloseAccount, h]

theorem serveResetPeriod_keyOff (hhigh : pairAt body 0 ≤ Config.maxAccount) (hkey : s.accounts.key.reading = false) :
    serveResetPeriod body s = s.refuse .keyOff := by
  simp [serveResetPeriod, Nat.not_lt.mpr hhigh, hkey]

section
variable (hone : pairAt body 0 ≠ 0) (hhigh : pairAt body 0 ≤ Config.maxAccount)
include hone hhigh

theorem serveAccountReport_missing (h : s.findAccount (pairAt body 0) = none) :
    serveAccountReport body s = s.refuse .noSuch := by
  simp [serveAccountReport, hone, Nat.not_lt.mpr hhigh, h]

theorem serveCloseAccount_missing (h : s.findAccount (pairAt body 0) = none) :
    serveCloseAccount body s = s.refuse .noSuch := by
  simp [serveCloseAccount, hone, Nat.not_lt.mpr hhigh, h]

theorem serveResetPeriod_missing (hkey : s.accounts.key.reading = true) (h : s.findAccount (pairAt body 0) = none) :
    serveResetPeriod body s = s.refuse .noSuch := by
  simp [serveResetPeriod, hone, Nat.not_lt.mpr hhigh, hkey, h]

variable {a : Account} {slot : Nat} (hfound : s.findAccount (pairAt body 0) = some a)
  (hslot : s.slotOf (pairAt body 0) = some slot)
include hfound hslot

theorem serveAccountReport_found : serveAccountReport body s = s.answer (a.report slot) := by
  simp [serveAccountReport, hone, Nat.not_lt.mpr hhigh, hfound, hslot]

theorem serveCloseAccount_held (h : a.held ≠ 0) : serveCloseAccount body s = s.refuse .wrongState := by
  simp [serveCloseAccount, hone, Nat.not_lt.mpr hhigh, hfound, hslot, h]

theorem serveCloseAccount_closed (h : a.held = 0) : serveCloseAccount body s =
    ((s.withSlot slot none).markDirty (6 + slot)).answer (quadField a.spent) := by
  simp [serveCloseAccount, hone, Nat.not_lt.mpr hhigh, hfound, hslot, h]

end

/-- Reset Period with the KEY on, of all accounts or of one that is there (R157). -/
theorem serveResetPeriod_taken (hhigh : pairAt body 0 ≤ Config.maxAccount) (hkey : s.accounts.key.reading = true)
    (hknown : pairAt body 0 = 0 ∨ s.findAccount (pairAt body 0) ≠ none) : serveResetPeriod body s =
      (s.resetSpent (s.namedNumbers (pairAt body 0))).answer
        (byteField (if pairAt body 0 = 0 then s.accounts.accounts.length else 1)) := by
  by_cases hzero : pairAt body 0 = 0
  · simp [serveResetPeriod, hkey, hzero, State.namedNumbers]
  · have hfound : (s.findAccount (pairAt body 0)).isNone = false := by
      simpa [Option.isSome_iff_ne_none] using hknown.resolve_left hzero
    simp [serveResetPeriod, Nat.not_lt.mpr hhigh, hkey, hzero, hfound, State.namedNumbers]

end

/-- Settles O60: each request by the number it names. -/
theorem accountsAreReportedClosedAndReset : Obligations.AccountsAreReportedClosedAndReset := by
  intro b1 b2 s number clear hfree hnumber hclear
  obtain rfl : number = pairAt [b1, b2] 0 := hnumber
  refine ⟨fun hover => ?_, fun hzero => ⟨?_, ?_⟩, fun hone hmax hnone => ?_,
    fun hone hmax i a hat hid hfirst => ?_, fun hmax hkey => ?_, fun hmax hkey hknown => ?_⟩
  · obtain ⟨hreport, hclose, hreset⟩ := serve_account_outOfRange (body := [b1, b2]) hover s.frameDone
    exact ⟨exec_accountReport_answered hfree hreport, exec_closeAccount_answered (t := s.frameDone) hfree hclose rfl,
      exec_resetPeriod_answered (t := s.frameDone) hfree hreset rfl⟩
  · have hsummary : slotSummary = fun slot : Option Account => match slot with
        | none => [0, 0, 0]
        | some a => pairField a.number ++ byteField ((if a.suspended then 1 else 0) +
            (if a.allowance - a.spent - a.held < a.warn then 2 else 0) + (if a.damaged then 4 else 0)) := by
      funext slot
      cases slot with
      | none => rfl
      | some a => rw [slotSummary, Account.flagByte_eq]
    have hreport := serveAccountReport_summary (s := s.frameDone) hzero
    rw [hsummary] at hreport
    exact exec_accountReport_answered hfree hreport
  · exact exec_closeAccount_answered (t := s.frameDone) hfree (serveCloseAccount_zero (s := s.frameDone) hzero) rfl
  · have hmissing : s.frameDone.findAccount (pairAt [b1, b2] 0) = none := State.findAccount_eq_none_of_numbers hnone
    have hnonzero : pairAt [b1, b2] 0 ≠ 0 := Nat.one_le_iff_ne_zero.mp hone
    exact ⟨exec_accountReport_answered hfree (serveAccountReport_missing hnonzero hmax hmissing),
      exec_closeAccount_answered (t := s.frameDone) hfree (serveCloseAccount_missing hnonzero hmax hmissing) rfl,
      fun hkey => exec_resetPeriod_answered (t := s.frameDone) hfree
        (serveResetPeriod_missing (s := s.frameDone) hnonzero hmax hkey hmissing) rfl⟩
  · obtain ⟨hfound, hslot⟩ := State.findAccount_and_slotOf (s := s.frameDone) hat hid hfirst
    have hnonzero : pairAt [b1, b2] 0 ≠ 0 := Nat.one_le_iff_ne_zero.mp hone
    refine ⟨?_, fun hheld => ?_, fun hheld => ?_⟩
    · have hreport : a.report i = byteField i ++ pairField (pairAt [b1, b2] 0) ++ [if a.suspended then 1 else 0] ++
          quadField a.allowance ++ quadField a.warn ++ quadField a.spent ++ quadField a.held ++
          quadField (a.allowance - a.spent - a.held) ++
          [if a.allowance - a.spent - a.held < a.warn then 1 else 0] ++ [if a.damaged then 1 else 0] := by
        simp only [Account.report, flagField, Account.low_iff, Account.available, hid]
      rw [← hreport]
      exact exec_accountReport_answered hfree (serveAccountReport_found hnonzero hmax hfound hslot)
    · exact exec_closeAccount_answered (t := s.frameDone) hfree
        (serveCloseAccount_held hnonzero hmax hfound hslot hheld) rfl
    · exact exec_closeAccount_answered hfree (serveCloseAccount_closed hnonzero hmax hfound hslot hheld)
        (State.markDirty_line _ _)
  · exact exec_resetPeriod_answered (t := s.frameDone) hfree (serveResetPeriod_keyOff (s := s.frameDone) hmax hkey) rfl
  · obtain ⟨store, hplaces, hreset⟩ := s.frameDone.resetSpent_exists_store (s.namedNumbers (pairAt [b1, b2] 0))
    have hclears : s.accounts.slots.map (Option.map (Account.clearedIn (s.namedNumbers (pairAt [b1, b2] 0)))) =
        s.accounts.slots.map (Option.map clear) := by
      refine List.map_congr_left fun slot hslot => ?_
      cases slot with
      | none => rfl
      | some a =>
        rw [hclear]
        exact congrArg some (if_congr (State.mem_namedNumbers hslot) rfl rfl)
    refine ⟨(s.frameDone.resetSpent (s.namedNumbers (pairAt [b1, b2] 0))).answered 83 .done _,
      exec_resetPeriod_answered hfree (serveResetPeriod_taken (s := s.frameDone) hmax hkey hknown) ?_, ?_, rfl, ?_, ?_,
      fun hdistinct hlength => ⟨_, rfl, ?_⟩, fun hspent => ?_⟩
    · rw [hreset]
    · rw [hreset, ← hclears]
      rfl
    · rw [hreset]
      exact hplaces
    · rw [hreset]
      rfl
    · exact congrArg (State.answered · 83 .done _) (State.resetSpent_eq_foldl (s := s.frameDone) hdistinct hlength hknown)
    · exact State.resetSpent_store (s := s.frameDone) fun a ha hmem => hspent a ha ((State.mem_namedNumbers ha).mp hmem)

end Sys2Proof.Machine
end


section
/-! PROOFS. Keep Report (R111 to R113): the frames kept and rejected, the labels queued, and the first of them begun. -/

namespace Sys2Proof.Machine

/-! ## The frames of a report, by their index -/

theorem Roll.numbered_eq (r : Roll) :
    r.numbered = (List.range r.frames.length).filterMap fun i => r.frames[i]?.map fun f => (i + 1, f) := by
  have hall : (List.range r.frames.length).filterMap (fun i => r.frames[i]?.map fun f => (i + 1, f)) =
      (List.range r.numbered.length).filterMap fun i => r.numbered[i]? := by
    simp only [numbered_getElem?, numbered_length]
  have hself (l : List (Nat × Frame)) : (List.range l.length).filterMap (fun i => l[i]?) = l := by
    induction l using List.reverseRecOn with
    | nil => rfl
    | append_singleton l x ih =>
      rw [List.length_append, List.length_singleton, List.range_succ, List.filterMap_append]
      have hbefore : (List.range l.length).filterMap (fun i => (l ++ [x])[i]?) =
          (List.range l.length).filterMap fun i => l[i]? :=
        List.filterMap_congr fun i hi => List.getElem?_append_left (List.mem_range.mp hi)
      rw [hbefore, ih]
      simp
  rw [hall, hself]

theorem Roll.countP_numbered_eq (r : Roll) (p : Nat × Frame → Bool) :
    r.numbered.countP p = (List.range r.frames.length).countP fun i => r.frames[i]?.any fun f => p (i + 1, f) := by
  rw [numbered_eq, List.countP_filterMap]
  refine List.countP_congr fun i _ => ?_
  cases r.frames[i]? <;> simp

theorem Roll.keptBy_length (r : Roll) (listed : List Nat) : (r.keptBy listed).length =
    (List.range r.frames.length).countP fun i =>
      (r.frames[i]?.any fun e => e.state = .exposed) && decide (i + 1 ∈ listed) := by
  rw [keptBy, ← List.countP_eq_length_filter, countP_numbered_eq]
  refine List.countP_congr fun i _ => ?_
  cases r.frames[i]? <;> simp

/-- An EXPOSED frame is kept or rejected. -/
theorem Roll.rejectedBy_length (r : Roll) (listed : List Nat) :
    (r.rejectedBy listed).length = (r.frames.countP fun e => e.state = .exposed) - (r.keptBy listed).length := by
  have hsplit := List.length_eq_length_filter_add (l := r.numbered.filter fun e => e.2.state = .exposed)
    fun e => listed.contains e.1
  rw [List.filter_filter, List.filter_filter] at hsplit
  have hexposed : (r.numbered.filter fun e => e.2.state = .exposed).length = r.frames.countP fun e => e.state = .exposed := by
    rw [← List.countP_eq_length_filter, ← countP_numbered]
  have hkept : (r.numbered.filter fun e => listed.contains e.1 && decide (e.2.state = .exposed)) = r.keptBy listed :=
    List.filter_congr fun e _ => Bool.and_comm _ _
  have hrejected : (r.numbered.filter fun e => !listed.contains e.1 && decide (e.2.state = .exposed)) =
      r.rejectedBy listed := List.filter_congr fun e _ => Bool.and_comm _ _
  rw [hexposed, hkept, hrejected] at hsplit
  omega

theorem Roll.rejectedBy_countP (r : Roll) (listed : List Nat) (id : Nat) :
    ((r.rejectedBy listed).countP fun e => e.2.order = id) = (List.range r.frames.length).countP fun i =>
      r.frames[i]?.any fun e => decide (e.state = .exposed ∧ e.order = id ∧ ¬ i + 1 ∈ listed) := by
  rw [rejectedBy, List.countP_filter, countP_numbered_eq]
  refine List.countP_congr fun i _ => ?_
  cases r.frames[i]? with
  | none => simp
  | some e => simp; tauto

theorem State.labelsFor_eq (s : State) (r : Roll) (listed : List Nat) : s.labelsFor r listed =
    (List.range r.frames.length).filterMap fun i => r.frames[i]?.bind fun (e : Frame) =>
      if e.state = .exposed ∧ i + 1 ∈ listed ∧ s.wantsLabels e.order = true then some ⟨r.number, i + 1, e.order⟩ else none := by
  rw [labelsFor, Roll.keptBy, Roll.numbered_eq, List.filter_filterMap, List.filter_filterMap, List.map_filterMap]
  refine List.filterMap_congr fun i _ => ?_
  cases r.frames[i]? with
  | none => rfl
  | some e =>
    by_cases hexposed : e.state = .exposed <;> by_cases hlisted : i + 1 ∈ listed <;>
      by_cases hwants : s.wantsLabels e.order = true <;> simp [hexposed, hlisted, hwants]

/-- The distinct numbers of a list that lie in 1 to 40, counted. -/
theorem distinctNumbers_length {listed : List Nat} (h : ∀ n ∈ listed, 1 ≤ n ∧ n ≤ 40) :
    (distinctNumbers listed).length = listed.dedup.length := by
  have hnodup : (distinctNumbers listed).Nodup :=
    ((List.nodup_range).map (Nat.succ_injective)).filter _
  refine ((List.perm_ext_iff_of_nodup hnodup (List.nodup_dedup listed)).mpr fun n => ?_).length_eq
  simp only [distinctNumbers, List.mem_filter, List.mem_map, List.mem_range, List.contains_iff_mem, List.mem_dedup]
  constructor
  · exact And.right
  · intro hn
    obtain ⟨hlow, hhigh⟩ := h n hn
    exact ⟨⟨n - 1, by omega, by omega⟩, hn⟩

/-! ## Roll records found and changed -/

theorem State.findRoll_mapRoll_same {g : Roll → Roll} (hnumber : ∀ r, (g r).number = r.number) {s : State} {number : Nat}
    {r : Roll} (h : s.findRoll number = some r) : (s.mapRoll number g).findRoll number = some (g r) := by
  have hsame (q : Roll) : (if q.number = number then g q else q).number = q.number := by split <;> simp [hnumber]
  have hfind : s.rolls.find? (fun q => q.number = number) = some r := h
  simp [findRoll, mapRoll, List.find?_map, hsame, hfind, findRoll_number h]

theorem State.findRoll_mapRoll_ne {g : Roll → Roll} (hnumber : ∀ r, (g r).number = r.number) (s : State) {number m : Nat}
    (h : m ≠ number) : (s.mapRoll number g).findRoll m = s.findRoll m := by
  have hsame (q : Roll) : (if q.number = number then g q else q).number = q.number := by split <;> simp [hnumber]
  have hother : s.rolls.find? (fun q => q.number = m) = (s.rolls.find? fun q => q.number = m).map
      fun q => if q.number = number then g q else q := by
    cases hfind : s.rolls.find? fun q => q.number = m with
    | none => rfl
    | some q =>
      have hq : q.number = m := by simpa using List.find?_some hfind
      rw [Option.map_some, if_neg (by rw [hq]; exact h)]
  simp only [findRoll, mapRoll, withRolls_rolls, List.find?_map, Function.comp_def, hsame]
  exact hother.symm

/-- The record of a roll that a Keep Report has settled (R112). -/
def Roll.reported (f : KeepFields) (r : Roll) : Roll :=
  { r with state := .keepReported (storedText f.date), frames := r.numbered.map (keepFrame f.kept) }

theorem Roll.reported_frames_length (f : KeepFields) (r : Roll) : (r.reported f).frames.length = r.frames.length := by
  rw [reported, List.length_map, numbered_length]

theorem Roll.reported_frame (f : KeepFields) {r : Roll} {i : Nat} {e : Frame} (h : r.frames[i]? = some e) :
    (r.reported f).frames[i]? = some (if e.state = .exposed then
      { e with state := if i + 1 ∈ f.kept then .kept else .rejected } else e) := by
  rw [reported, List.getElem?_map, numbered_getElem?, h]
  simp [keepFrame]

/-! ## The report taken -/

/-- The Label Unit with entries behind those of its queue, and the head's label begun by an IDLE printer (R113, R122). -/
def LabelUnit.queued (l : LabelUnit) (entries : List LabelEntry) (compose : LabelEntry → List Byte) : LabelUnit :=
  match l.printer, l.queue ++ entries with
  | .idle, e :: _ => LabelUnit.beginLabel { l with queue := l.queue ++ entries } (compose e)
  | _, queue => { l with queue := queue }

theorem LabelUnit.queued_mark (l : LabelUnit) (entries : List LabelEntry) (compose : LabelEntry → List Byte) :
    (l.queued entries compose).mark = l.mark := by
  unfold queued
  split <;> simp

theorem State.queueLabels_eq (s : State) (entries : List LabelEntry) :
    s.queueLabels entries = s.withLabels (s.labels.queued entries s.composeLabel) := by
  have hcompose (e : LabelEntry) : (s.withLabels { s.labels with queue := s.labels.queue ++ entries }).composeLabel e =
      s.composeLabel e := composeLabel_congr _ _ e rfl rfl rfl
  simp only [queueLabels, beginPrinting, withLabels_labels, hcompose, LabelUnit.queued]
  cases hprinter : s.labels.printer with
  | idle => cases hqueue : s.labels.queue ++ entries <;> rfl
  | _ => rfl

/-- The state a Keep Report leaves, but for the port (R112, R113). -/
def State.keepReported (s : State) (r : Roll) (f : KeepFields) : State :=
  ((s.mapRoll r.number (Roll.reported f)).reportRejected (r.rejectedBy f.kept)).queueLabels (s.labelsFor r f.kept)

theorem State.takeKeepReport_eq (s : State) (r : Roll) (f : KeepFields) : s.takeKeepReport r f =
    (s.keepReported r f).answer (byteField (r.keptBy f.kept).length ++ byteField (r.rejectedBy f.kept).length ++
      byteField ((distinctNumbers f.kept).length - (r.keptBy f.kept).length) ++
      byteField (s.labelsFor r f.kept).length) := rfl

/-- What a Keep Report leaves: the roll's record, the orders and accounts of its rejected frames, and the labels. -/
structure State.KeepReports (s : State) (r : Roll) (f : KeepFields) (t : State) : Prop where
  rolls : t.rolls = (s.mapRoll r.number (Roll.reported f)).rolls
  orders : t.orders = { s.orders with
    table := s.orders.table.map fun q => q.giveUp ((r.rejectedBy f.kept).countP fun e => e.2.order = q.id) }
  held : ∀ n, t.findAccount n = (s.findAccount n).map fun a =>
    a.lowerHeld (s.givenUpFor n fun id => (r.rejectedBy f.kept).countP fun e => e.2.order = id)
  labels : t.labels = s.labels.queued (s.labelsFor r f.kept) t.composeLabel
  frame : t = { s with rolls := t.rolls, orders := t.orders, accounts := t.accounts, labels := t.labels }

theorem State.keepReported_keepReports {s : State} (hdistinct : (s.orders.table.map Order.id).Nodup) (r : Roll)
    (f : KeepFields) : s.KeepReports r f (s.keepReported r f) := by
  obtain ⟨hrecords, hheld⟩ := reportRejected_givesUp (s := s.mapRoll r.number (Roll.reported f)) hdistinct
    (r.rejectedBy f.kept)
  unfold keepReported
  generalize (s.mapRoll r.number (Roll.reported f)).reportRejected (r.rejectedBy f.kept) = u at hrecords hheld
  have hlabels : u.labels = s.labels := by rw [hrecords]; rfl
  have hrolls : u.rolls = (s.mapRoll r.number (Roll.reported f)).rolls := by rw [hrecords]
  have horders : u.orders = { s.orders with
      table := s.orders.table.map fun q => q.giveUp ((r.rejectedBy f.kept).countP fun e => e.2.order = q.id) } := by
    rw [hrecords]
    rfl
  have hframe : u = { s with rolls := u.rolls, orders := u.orders, accounts := u.accounts } := by
    rw [hrecords]
    rfl
  rw [queueLabels_eq, hlabels]
  have hmark := s.labels.queued_mark (s.labelsFor r f.kept) u.composeLabel
  refine ⟨hrolls, horders, hheld, ?_, ?_⟩
  · have hcompose : (u.withLabels (s.labels.queued (s.labelsFor r f.kept) u.composeLabel)).composeLabel = u.composeLabel :=
      funext fun e => composeLabel_congr _ _ e (by rw [withLabels_labels, hmark, hlabels]) rfl rfl
    rw [hcompose]
    rfl
  · generalize s.labels.queued (s.labelsFor r f.kept) u.composeLabel = l
    exact congrArg (fun v : State => v.withLabels l) hframe

/-! ## The request (R111) -/

theorem KeepFields.inRange_iff (f : KeepFields) : f.inRange = true ↔
    f.roll ≠ 0 ∧ f.date.length = 6 ∧ f.kept.length ≤ 40 ∧ ∀ n ∈ f.kept, 1 ≤ n ∧ n ≤ 40 := by
  simp [inRange, and_assoc]

section
variable {body : List Byte} {s : State}

theorem serveKeepReport_outOfRange (h : ¬ (readKeep body).inRange = true) :
    serveKeepReport body s = s.refuse .outOfRange := by simp [serveKeepReport, h]

variable (hrange : (readKeep body).inRange = true)
include hrange

theorem serveKeepReport_noSuch (h : s.findRoll (readKeep body).roll = none) :
    serveKeepReport body s = s.refuse .noSuch := by simp [serveKeepReport, hrange, h]

theorem serveKeepReport_found {r : Roll} (h : s.findRoll (readKeep body).roll = some r) : serveKeepReport body s =
    if r.state ≠ .out then s.refuse .wrongState
    else if 48 < s.labels.queue.length + (s.labelsFor r (readKeep body).kept).length then s.refuse .tableFull
    else s.takeKeepReport r (readKeep body) := by
  simp only [serveKeepReport, hrange, h, Config.maxLabels, Bool.not_true, Bool.false_eq_true, if_false, gt_iff_lt]

end

theorem exec_keepReport_answered {s t : State} {body reply : List Byte} {result : Result} (h : s.free)
    (hfits : body.length ≤ 63) (hlength : keepLengthOk body = true)
    (howner : serveKeepReport body s.frameDone = (⟨result, reply⟩, t)) (hline : t.line = s.frameDone.line) :
    exec (.keepReport body) s = .next (t.answered 35 result reply) :=
  congrArg Host.Outcome.next (State.arrive_eq_answered (kind := 35) h rfl hlength hfits howner hline)

/-- Settles O56: the refusals in order, or the report taken. -/
theorem keepReportSettlesTheRoll : Obligations.KeepReportSettlesTheRoll := by
  rintro body s f hfree hfits hlength rfl
  refine ⟨fun hout => ?_, fun hrange => ?_⟩
  · exact exec_keepReport_answered (t := s.frameDone) hfree hfits hlength
      (serveKeepReport_outOfRange (mt (KeepFields.inRange_iff _).mp hout)) rfl
  have hin := (KeepFields.inRange_iff _).mpr hrange
  refine ⟨fun hnone => ?_, fun r hroll hstate => ?_, fun r entries hroll hstate hentries => ?_⟩
  · exact exec_keepReport_answered (t := s.frameDone) hfree hfits hlength
      (serveKeepReport_noSuch (s := s.frameDone) hin hnone) rfl
  · exact exec_keepReport_answered (t := s.frameDone) hfree hfits hlength
      ((serveKeepReport_found (s := s.frameDone) hin hroll).trans (if_pos hstate)) rfl
  have howner := (serveKeepReport_found (s := s.frameDone) hin hroll).trans (if_neg (not_not.mpr hstate))
  obtain rfl : entries = s.labelsFor r (readKeep body).kept := hentries.trans (s.labelsFor_eq r _).symm
  refine ⟨fun hfull => ?_, fun hroom kept rejected rejectedOf given hkept hrejected hrejectedOf hgiven hdistinct => ?_⟩
  · exact exec_keepReport_answered (t := s.frameDone) hfree hfits hlength (howner.trans (if_pos hfull)) rfl
  obtain rfl : kept = (r.keptBy (readKeep body).kept).length := hkept.trans (r.keptBy_length _).symm
  obtain rfl : rejected = (r.rejectedBy (readKeep body).kept).length := hrejected.trans (r.rejectedBy_length _).symm
  obtain rfl : rejectedOf = fun id => (r.rejectedBy (readKeep body).kept).countP fun e => e.2.order = id :=
    hrejectedOf.trans (funext fun id => (r.rejectedBy_countP _ id).symm)
  obtain ⟨hrolls, horders, hheld, hlabels, hframe⟩ :=
    State.keepReported_keepReports (s := s.frameDone) hdistinct r (readKeep body)
  have hnumber : r.number = (readKeep body).roll := State.findRoll_number hroll
  have htaken := howner.trans (if_neg (Nat.not_lt.mpr hroom))
  rw [State.takeKeepReport_eq, distinctNumbers_length hrange.2.2.2] at htaken
  generalize s.frameDone.keepReported r (readKeep body) = u at hrolls horders hheld hlabels hframe htaken
  have hline : u.line = s.frameDone.line := by rw [hframe]
  have hfind (m : Nat) : u.findRoll m = (s.mapRoll r.number (Roll.reported (readKeep body))).findRoll m := by
    rw [State.findRoll, hrolls]
    rfl
  refine ⟨_, exec_keepReport_answered hfree hfits hlength htaken hline, ?_, ?_, hlabels, fun m hm => ?_, ?_,
    ⟨r.reported (readKeep body), ?_, rfl, Roll.reported_frames_length _ r, fun i e he => Roll.reported_frame _ he⟩,
    horders, fun n x hx => ?_⟩
  · rw [State.answered, hline]
    rfl
  · rw [hframe]
    rfl
  · rw [← hnumber] at hm
    exact (hfind m).trans (State.findRoll_mapRoll_ne (g := Roll.reported (readKeep body)) (fun _ => rfl) s hm)
  · have hnumbers (q : Roll) : (if q.number = r.number then Roll.reported (readKeep body) q else q).number = q.number := by
      split <;> rfl
    change u.rolls.map Roll.number = _
    rw [hrolls]
    simp [State.mapRoll, Function.comp_def, hnumbers]
    rfl
  · rw [← hnumber] at hroll ⊢
    exact (hfind _).trans (State.findRoll_mapRoll_same (g := Roll.reported (readKeep body)) (fun _ => rfl) hroll)
  · have hfound : s.frameDone.findAccount n = some x := hx
    refine ⟨_, (hheld n).trans (congrArg (Option.map _) hfound), rfl, fun _ => ?_⟩
    rw [hgiven]
    rfl

end Sys2Proof.Machine
end


section
/-! PROOFS. Refunds and the labels given up: they do not get in each other's way (R110, R146, R150). -/

namespace Sys2Proof.Machine

/-! ## Two changes of accounts -/

theorem State.mapAccount_mapAccount_comm {f g : Account → Account} (hf : ∀ a, (f a).number = a.number)
    (hg : ∀ a, (g a).number = a.number) (hfg : ∀ a, f (g a) = g (f a)) (s : State) (n m : Nat) :
    (s.mapAccount m g).mapAccount n f = (s.mapAccount n f).mapAccount m g := by
  have hslots : ((s.mapAccount m g).mapAccount n f).accounts.slots = ((s.mapAccount n f).mapAccount m g).accounts.slots := by
    simp only [mapAccount_slots, List.map_map]
    refine List.map_congr_left fun slot _ => ?_
    cases slot with
    | none => rfl
    | some a =>
      simp only [Function.comp_apply, Option.map_some, apply_ite Account.number, hf, hg, ite_self]
      split_ifs
      exacts [congrArg some (hfg a), rfl, rfl, rfl]
  exact congrArg (fun slots => s.withAccounts { s.accounts with slots := slots }) hslots

/-- What is held of an account is not stored (R161). -/
theorem State.image_mapAccount_lowerHeld (s : State) (m k place : Nat) :
    (s.mapAccount m fun a => a.lowerHeld k).image place = s.image place := by
  have hslot : ((s.mapAccount m fun a => a.lowerHeld k).accounts.slots.getD (place - 6) none).map Account.fields =
      (s.accounts.slots.getD (place - 6) none).map Account.fields := by
    rw [mapAccount_slots, List.getD_eq_getElem?_getD, List.getD_eq_getElem?_getD, List.getElem?_map]
    rcases s.accounts.slots[place - 6]? with _ | _ | a
    · rfl
    · rfl
    · by_cases hm : a.number = m <;> simp [hm, Account.fields, Account.lowerHeld]
  have hstored : ((s.mapAccount m fun a => a.lowerHeld k).accounts.slots.getD (place - 6) none).map
      (fun a => withCheck Config.placeSum a.fields) =
      (s.accounts.slots.getD (place - 6) none).map fun a => withCheck Config.placeSum a.fields := by
    have h := congrArg (Option.map fun fields => withCheck Config.placeSum fields) hslot
    rwa [Option.map_map, Option.map_map] at h
  unfold image
  dsimp only
  rw [hstored]
  rfl

theorem State.startWrite_mapAccount_lowerHeld (s : State) (m k : Nat) :
    (s.mapAccount m fun a => a.lowerHeld k).startWrite = s.startWrite.mapAccount m fun a => a.lowerHeld k := by
  unfold startWrite
  rw [show (s.mapAccount m fun a => a.lowerHeld k).engineFree = s.engineFree from rfl, mapAccount_store]
  split
  · rw [image_mapAccount_lowerHeld]
    rfl
  · rfl

theorem State.markAccount_mapAccount_lowerHeld (s : State) (n m k : Nat) :
    (s.mapAccount m fun a => a.lowerHeld k).markAccount n = (s.markAccount n).mapAccount m fun a => a.lowerHeld k := by
  unfold markAccount
  rw [slotOf_mapAccount (f := fun a => a.lowerHeld k) fun _ => rfl]
  cases s.slotOf n with
  | none => rfl
  | some slot =>
    exact startWrite_mapAccount_lowerHeld (s.withStore { s.store with dirty := s.store.dirty.set (6 + slot) true }) m k

/-- A refund: the account's spent, and its place marked dirty where spent changed (R150, R146). -/
theorem State.refund_of_found {s : State} {n : Nat} {a : Account} (h : s.findAccount n = some a) (charge : Nat) :
    s.refund n charge =
      if a.spent - charge ≠ a.spent then (s.mapAccount n (Account.refunded charge)).markAccount n
      else s.mapAccount n (Account.refunded charge) := by
  have hquiet : (!a.low && (a.refunded charge).low) = false := by
    by_cases hnow : (a.refunded charge).low = true
    · simp [Account.low_of_refunded hnow]
    · simp [hnow]
  have hchange : s.refund n charge = s.changeAccount n (Account.refunded charge) := rfl
  simp only [hchange, changeAccount, h, noteLow, hquiet, Bool.false_eq_true, if_false]
  rfl

theorem State.refund_of_missing {s : State} {n : Nat} (h : s.findAccount n = none) (charge : Nat) :
    s.refund n charge = s := by
  simp only [refund, changeAccount, h]

/-- A refund and an amount that leaves an account's held do not get in each other's way. -/
theorem State.refund_mapAccount_lowerHeld (s : State) (n charge m k : Nat) :
    (s.mapAccount m fun a => a.lowerHeld k).refund n charge = (s.refund n charge).mapAccount m fun a => a.lowerHeld k := by
  have hfind := findAccount_mapAccount (f := fun a => a.lowerHeld k) (fun _ => rfl) s m n
  have hcomm := s.mapAccount_mapAccount_comm (f := Account.refunded charge) (g := fun a => a.lowerHeld k) (fun _ => rfl)
    (fun _ => rfl) (fun _ => rfl) n m
  cases hfound : s.findAccount n with
  | none =>
    rw [hfound] at hfind
    rw [refund_of_missing hfind, refund_of_missing hfound]
  | some a =>
    have hspent : (if a.number = m then a.lowerHeld k else a).spent = a.spent := by split <;> rfl
    rw [hfound, Option.map_some] at hfind
    rw [refund_of_found hfind, refund_of_found hfound, hspent, hcomm, markAccount_mapAccount_lowerHeld]
    exact (apply_ite (fun u : State => u.mapAccount m fun a => a.lowerHeld k) _ _ _).symm

theorem State.startWrite_mapOrder (s : State) (id : Nat) (f : Order → Order) :
    (s.mapOrder id f).startWrite = s.startWrite.mapOrder id f := by
  unfold startWrite
  rw [show (s.mapOrder id f).engineFree = s.engineFree from rfl, mapOrder_store]
  split <;> rfl

theorem State.refund_mapOrder (s : State) (n charge id : Nat) (f : Order → Order) :
    (s.mapOrder id f).refund n charge = (s.refund n charge).mapOrder id f := by
  have hmark (u : State) : (u.mapOrder id f).markAccount n = (u.markAccount n).mapOrder id f := by
    unfold markAccount
    rw [show (u.mapOrder id f).slotOf n = u.slotOf n from rfl]
    cases u.slotOf n with
    | none => rfl
    | some slot => exact startWrite_mapOrder (u.withStore { u.store with dirty := u.store.dirty.set (6 + slot) true }) id f
  cases hfound : s.findAccount n with
  | none => rw [refund_of_missing (s := s.mapOrder id f) hfound, refund_of_missing hfound]
  | some a =>
    rw [refund_of_found (s := s.mapOrder id f) hfound, refund_of_found hfound]
    have hcomm : (s.mapOrder id f).mapAccount n (Account.refunded charge) =
        (s.mapAccount n (Account.refunded charge)).mapOrder id f := rfl
    rw [hcomm, hmark]
    exact (apply_ite (fun u : State => u.mapOrder id f) _ _ _).symm

/-- A refund and a label given up do not get in each other's way. -/
theorem State.refund_giveUpLabel (s : State) (n charge id : Nat) :
    (s.giveUpLabel id).refund n charge = (s.refund n charge).giveUpLabel id := by
  have hfind : (s.refund n charge).findOrder id = s.findOrder id := by rw [findOrder, refund_orders]; rfl
  cases hfound : s.findOrder id with
  | none =>
    rw [hfound] at hfind
    simp only [giveUpLabel, hfound, hfind]
  | some o =>
    rw [hfound] at hfind
    by_cases hlabels : o.labels = true
    · rw [giveUpLabel_of_labels hfound hlabels, giveUpLabel_of_labels hfind hlabels, refund_mapAccount_lowerHeld,
        refund_mapOrder]
    · simp [giveUpLabel, hfound, hfind, hlabels]

/-! ## Refunds one after the other -/

/-- The charges of frames refunded in frame order. -/
def State.refundFrames (s : State) (frames : List Frame) : State := frames.foldl (fun u f => u.refund f.account f.charge) s

/-- Each fogged entry is refunded and reported (R110): as if all refunds came first, and the reports after them. -/
theorem State.foldl_settleFogged (s : State) (frames : List Frame) : frames.foldl State.settleFogged s =
    frames.foldl (fun u f => u.giveUpLabel f.order) (s.refundFrames frames) := by
  have hpast (u : State) (fs : List Frame) (id : Nat) :
      (u.giveUpLabel id).refundFrames fs = (u.refundFrames fs).giveUpLabel id := by
    induction fs generalizing u with
    | nil => rfl
    | cons f rest ih =>
      change ((u.giveUpLabel id).refund f.account f.charge).refundFrames rest = _
      rw [refund_giveUpLabel, ih]
      rfl
  induction frames generalizing s with
  | nil => rfl
  | cons f rest ih =>
    rw [List.foldl_cons, ih, settleFogged, hpast, List.foldl_cons]
    rfl

end Sys2Proof.Machine
end


section
/-! PROOFS. What an order gives back when it ends or a frame of it is spoiled: its holds and the labels it owes, and
nothing else of it or of any other order (R14, R24). -/

namespace Sys2Proof.Machine

/-! ## Holds given back -/

/-- An order without what it can give back: its holds and the labels it owes. -/
def Order.unheld (o : Order) : Order := { o with setupHold := 0, frameHold := 0, labelHold := 0, labelsOutstanding := 0 }

/-- The order of an id gives holds back to its account; no other order and nothing else changes. -/
structure State.Unholds (s : State) (id : Nat) (t : State) : Prop where
  records : t = { s with
    orders := { s.orders with table := t.orders.table }
    accounts := { s.accounts with slots := t.accounts.slots } }
  orders : ∃ g : Order → Order, (∀ o, (g o).unheld = o.unheld) ∧
    t.orders.table = s.orders.table.map fun q => if q.id = id then g q else q
  held : ∀ n, ∃ k, t.findAccount n = (s.findAccount n).map fun a => a.lowerHeld k

theorem Order.id_of_unheld {o p : Order} (h : p.unheld = o.unheld) : p.id = o.id :=
  have hid : p.unheld.id = o.unheld.id := congrArg Order.id h
  hid

theorem Order.lowerHold_unheld (o : Order) (part : HoldPart) (n : Nat) : (o.lowerHold part n).unheld = o.unheld := by
  cases part <;> rfl

namespace State.Unholds

variable {s t u : State} {id : Nat}

theorem refl (s : State) (id : Nat) : s.Unholds id s where
  records := rfl
  orders := ⟨fun o => o, fun _ => rfl, by simp⟩
  held n := ⟨0, by simp [Account.lowerHeld]⟩

theorem trans (first : s.Unholds id t) (second : t.Unholds id u) : s.Unholds id u where
  records := by
    rw [second.records, first.records]
  orders := by
    obtain ⟨g, hg, htable⟩ := first.orders
    obtain ⟨h, hh, hafter⟩ := second.orders
    refine ⟨fun o => h (g o), fun o => (hh _).trans (hg o), ?_⟩
    rw [hafter, htable, List.map_map]
    refine List.map_congr_left fun q _ => ?_
    by_cases hid : q.id = id
    · simp [hid, Order.id_of_unheld (hg q)]
    · simp [hid]
  held n := by
    obtain ⟨j, hj⟩ := first.held n
    obtain ⟨k, hk⟩ := second.held n
    exact ⟨j + k, by simp [hk, hj, Function.comp_def, Account.lowerHeld_lowerHeld]⟩

theorem release (s : State) (id : Nat) (part : HoldPart) (amount : Nat) : s.Unholds id (s.release id part amount) := by
  cases hfound : s.findOrder id with
  | none =>
    have hsame : s.release id part amount = s := by simp only [State.release, moveHold, hfound]
    rw [hsame]
    exact refl s id
  | some o =>
    rw [release_eq hfound]
    refine ⟨rfl, ⟨_, fun q => q.lowerHold_unheld part _, rfl⟩, fun n => ?_⟩
    refine ⟨if n = o.account then min amount (o.hold part) else 0, ?_⟩
    rw [findAccount_mapAccount (f := fun a => a.lowerHeld (min amount (o.hold part))) (fun _ => rfl)]
    change (s.findAccount n).map _ = _
    refine Option.map_congr fun a ha => ?_
    rw [findAccount_number ha]
    split <;> rfl

theorem oweFewerLabels (s : State) (id count : Nat) : s.Unholds id (s.oweFewerLabels id count) where
  records := rfl
  orders := ⟨fun o => { o with labelsOutstanding := o.labelsOutstanding - count }, fun _ => rfl, rfl⟩
  held n := ⟨0, by simp [Account.lowerHeld, State.oweFewerLabels, mapOrder, findAccount]⟩

theorem store (h : s.Unholds id t) : t.store = s.store := by rw [h.records]
theorem notices (h : s.Unholds id t) : t.notices = s.notices := by rw [h.records]
theorem accounts (h : s.Unholds id t) : t.accounts = { s.accounts with slots := t.accounts.slots } := by rw [h.records]

end State.Unholds

/-! ## The finish and the spoiled frame, as what they do besides -/

/-- An order as its finish names it (R24). -/
def Order.ended (final : OrderState) (o : Order) : Order := { o with state := final, cancelRequested := false }

/-- The mark and the notices after the finish of an order (R24). -/
def State.concluded (s : State) (id : Nat) : State :=
  { s with
    orders := { s.orders with active := if s.orders.active = some id then none else s.orders.active }
    notices := { s.notices.noting Notice.orderFinished.bit with lastFinished := id } }

theorem State.concluded_eq (u : State) (id : Nat) {v : State}
    (h : v = if u.orders.active = some id then u.withOrders { u.orders with active := none } else u) :
    (v.withNotices { v.notices with lastFinished := id }).raise .orderFinished = u.concluded id := by
  subst h
  unfold concluded
  split <;> rfl

/-- The labels of a number of frames given back: their releases, and the labels owed for them. -/
def State.labelsBack (s : State) (o : Order) (count amount : Nat) : State :=
  if o.labels then (s.release o.id .label amount).oweFewerLabels o.id count else s

/-- What a finished order gives back (R24): its unmade frames and their labels, and a setup that was not used. -/
def State.unmadeBack (s : State) (o : Order) : State :=
  let labels := (s.release o.id .frame (o.unmade * o.frameRate)).labelsBack o o.unmade (o.unmade * o.labelRate)
  if o.exposed = 0 then labels.release o.id .setup o.setupFee else labels

theorem State.Unholds.labelsBack (s : State) (o : Order) (count amount : Nat) :
    s.Unholds o.id (s.labelsBack o count amount) :=
  iteInduction (fun _ => (release s o.id .label amount).trans (oweFewerLabels _ o.id count)) fun _ => refl s o.id

theorem State.Unholds.unmadeBack (s : State) (o : Order) : s.Unholds o.id (s.unmadeBack o) := by
  have hlabels := (release s o.id .frame (o.unmade * o.frameRate)).trans
    (labelsBack _ o o.unmade (o.unmade * o.labelRate))
  unfold State.unmadeBack
  exact iteInduction (fun _ => hlabels.trans (release _ o.id .setup o.setupFee)) fun _ => hlabels

theorem State.finishOrder_eq {s : State} {id : Nat} {o : Order} (h : s.findOrder id = some o) (final : OrderState) :
    s.finishOrder id final = ((s.mapOrder id (Order.ended final)).unmadeBack o).concluded id := by
  obtain ⟨-, rfl⟩ := findOrder_some h
  simp only [finishOrder, h]
  exact concluded_eq _ o.id rfl

/-- What a spoiled frame gives back (R14): its rate and its label. -/
def State.frameBack (s : State) (o : Order) : State := (s.release o.id .frame o.frameRate).labelsBack o 1 o.labelRate

theorem State.Unholds.frameBack (s : State) (o : Order) : s.Unholds o.id (s.frameBack o) :=
  (release s o.id .frame o.frameRate).trans (labelsBack _ o 1 o.labelRate)

/-- An order after a frame of it was spoiled (R14). -/
def Order.spoiledAt (t : TransportUnit) (o : Order) : Order := o.progress (t.roll.getD 0) t.currentFrame true

theorem State.spoilFrame_eq {s : State} {o : Order} (h : s.activeOrder = some o) (advance : Bool) :
    s.spoilFrame advance =
      if advance then (((s.recordFrame o .spoiled 0).frameBack o).mapOrder o.id (Order.spoiledAt s.transport)).requestAdvance o.id
      else ((s.recordFrame o .spoiled 0).frameBack o).mapOrder o.id (Order.spoiledAt s.transport) := by
  simp only [spoilFrame, h]
  rfl

/-! ## What is not touched -/

theorem State.mapOrder_ids {f : Order → Order} (hid : ∀ o, (f o).id = o.id) (s : State) (id : Nat) :
    (s.mapOrder id f).orders.table.map Order.id = s.orders.table.map Order.id := by
  simp only [mapOrder, withOrders_orders, List.map_map]
  refine List.map_congr_left fun q _ => ?_
  by_cases hq : q.id = id <;> simp [hq, hid]

theorem State.Unholds.ids {s t : State} {id : Nat} (h : s.Unholds id t) :
    t.orders.table.map Order.id = s.orders.table.map Order.id := by
  obtain ⟨g, hg, htable⟩ := h.orders
  rw [htable]
  exact mapOrder_ids (fun o => Order.id_of_unheld (hg o)) s id

theorem State.finishOrder_ids (s : State) (id : Nat) (final : OrderState) :
    (s.finishOrder id final).orders.table.map Order.id = s.orders.table.map Order.id := by
  cases hfound : s.findOrder id with
  | none => simp only [finishOrder, hfound]
  | some o =>
    obtain ⟨-, rfl⟩ := findOrder_some hfound
    rw [finishOrder_eq hfound]
    exact (Unholds.unmadeBack _ o).ids.trans (mapOrder_ids (f := Order.ended final) (fun _ => rfl) s o.id)

theorem State.finishOrder_store (s : State) (id : Nat) (final : OrderState) : (s.finishOrder id final).store = s.store := by
  cases hfound : s.findOrder id with
  | none => simp only [finishOrder, hfound]
  | some o =>
    obtain ⟨-, rfl⟩ := findOrder_some hfound
    rw [finishOrder_eq hfound]
    exact (Unholds.unmadeBack (s.mapOrder o.id (Order.ended final)) o).store

theorem State.spoilFrame_ids (s : State) (advance : Bool) :
    (s.spoilFrame advance).orders.table.map Order.id = s.orders.table.map Order.id := by
  cases hactive : s.activeOrder with
  | none => simp only [spoilFrame, hactive]
  | some o =>
    have hmoved := (mapOrder_ids (f := Order.spoiledAt s.transport) (fun _ => rfl)
      ((s.recordFrame o .spoiled 0).frameBack o) o.id).trans (Unholds.frameBack (s.recordFrame o .spoiled 0) o).ids
    rw [recordFrame_eq] at hmoved
    rw [spoilFrame_eq hactive, recordFrame_eq]
    split
    · rw [requestAdvance_orders]
      exact hmoved
    · exact hmoved

theorem State.spoilFrame_store (s : State) (advance : Bool) : (s.spoilFrame advance).store = s.store := by
  cases hactive : s.activeOrder with
  | none => simp only [spoilFrame, hactive]
  | some o =>
    have hback := (Unholds.frameBack (s.recordFrame o .spoiled 0) o).store
    rw [recordFrame_eq] at hback
    rw [spoilFrame_eq hactive, recordFrame_eq]
    split
    · rw [requestAdvance_store]
      exact hback
    · exact hback

theorem State.dropOrderLighting_ids (s : State) (advance : Bool) :
    (s.dropOrderLighting advance).orders.table.map Order.id = s.orders.table.map Order.id := by
  unfold dropOrderLighting
  rcases s.exposure.purpose with _ | _ | _ | _ | _
  case some.exposure => exact spoilFrame_ids _ advance
  all_goals rfl

theorem State.dropOrderLighting_store (s : State) (advance : Bool) : (s.dropOrderLighting advance).store = s.store := by
  unfold dropOrderLighting
  rcases s.exposure.purpose with _ | _ | _ | _ | _
  case some.exposure => exact spoilFrame_store _ advance
  all_goals rfl

theorem State.cutShort_ids (s : State) (reason : FinishReason) (spared advance : Bool) :
    (s.cutShort reason spared advance).orders.table.map Order.id = s.orders.table.map Order.id := by
  unfold cutShort
  split
  · rfl
  · split
    · rfl
    · rw [finishOrder_ids, dropOrderLighting_ids]

theorem State.cutShort_store (s : State) (reason : FinishReason) (spared advance : Bool) :
    (s.cutShort reason spared advance).store = s.store := by
  unfold cutShort
  split
  · rfl
  · split
    · rfl
    · rw [finishOrder_store, dropOrderLighting_store]

end Sys2Proof.Machine
end


section
/-! PROOFS. A removal: the order's work does not read the motor, and the refunds' places are marked (R84, R109, R110). -/

namespace Sys2Proof.Machine

/-! ## The motor stopped first -/

section
variable (s : State) (u : TransportUnit) (o : Order)

theorem State.release_withTransport (id : Nat) (part : HoldPart) (amount : Nat) :
    (s.withTransport u).release id part amount = (s.release id part amount).withTransport u := by
  cases hfound : s.findOrder id with
  | none => simp only [release, moveHold, hfound, show (s.withTransport u).findOrder id = none from hfound]
  | some o =>
    rw [release_eq hfound, release_eq (s := s.withTransport u) hfound]
    rfl

theorem State.labelsBack_withTransport (count amount : Nat) :
    (s.withTransport u).labelsBack o count amount = (s.labelsBack o count amount).withTransport u := by
  unfold labelsBack
  rw [release_withTransport]
  split <;> rfl

theorem State.unmadeBack_withTransport : (s.withTransport u).unmadeBack o = (s.unmadeBack o).withTransport u := by
  simp only [unmadeBack, release_withTransport, labelsBack_withTransport]
  split <;> rfl

theorem State.finishOrder_withTransport (id : Nat) (final : OrderState) :
    (s.withTransport u).finishOrder id final = (s.finishOrder id final).withTransport u := by
  cases hfound : s.findOrder id with
  | none => simp only [finishOrder, hfound, show (s.withTransport u).findOrder id = none from hfound]
  | some o =>
    rw [finishOrder_eq hfound, finishOrder_eq (s := s.withTransport u) hfound]
    have hstate : (s.withTransport u).mapOrder id (Order.ended final) = (s.mapOrder id (Order.ended final)).withTransport u := rfl
    rw [hstate, unmadeBack_withTransport]
    rfl

end

/-- A transport with the same film in the gate. -/
theorem State.spoilFrame_withTransport (s : State) {u : TransportUnit} (hroll : u.roll = s.transport.roll)
    (hframe : u.currentFrame = s.transport.currentFrame) :
    (s.withTransport u).spoilFrame false = (s.spoilFrame false).withTransport u := by
  cases hactive : s.activeOrder with
  | none => simp only [spoilFrame, hactive, show (s.withTransport u).activeOrder = none from hactive]
  | some o =>
    have hrecord : (s.withTransport u).recordFrame o .spoiled 0 = (s.recordFrame o .spoiled 0).withTransport u := by
      rw [recordFrame_eq, recordFrame_eq, withTransport_transport, hroll, hframe]
      rfl
    have hspoiled : Order.spoiledAt u = Order.spoiledAt s.transport := by
      funext p
      simp only [Order.spoiledAt, hroll, hframe]
    rw [spoilFrame_eq hactive, spoilFrame_eq (s := s.withTransport u) hactive, hrecord, withTransport_transport, hspoiled]
    simp only [frameBack, release_withTransport, labelsBack_withTransport]
    rfl

/-- An order is cut short without its frame advanced past whatever the motor does. -/
theorem State.cutShort_withTransport (s : State) {u : TransportUnit} (hroll : u.roll = s.transport.roll)
    (hframe : u.currentFrame = s.transport.currentFrame) (reason : FinishReason) (spared : Bool) :
    (s.withTransport u).cutShort reason spared false = (s.cutShort reason spared false).withTransport u := by
  have hlight : (s.withTransport u).dropOrderLighting false = (s.dropOrderLighting false).withTransport u := by
    unfold dropOrderLighting
    rw [withTransport_exposure]
    rcases s.exposure.purpose with _ | _ | _ | _ | _
    case some.exposure => exact spoilFrame_withTransport (s.endLighting.meterIdle) hroll hframe
    all_goals rfl
  unfold cutShort
  rw [show (s.withTransport u).activeOrder = s.activeOrder from rfl]
  cases s.activeOrder with
  | none => rfl
  | some o =>
    rw [hlight]
    dsimp only
    rw [finishOrder_withTransport]
    exact (apply_ite (fun v : State => v.withTransport u) _ _ _).symm

/-! ## The refunds of a roll -/

/-- Another film: the transport and the rolls. -/
def State.withFilm (s : State) (u : TransportUnit) (rolls : List Roll) : State := { s with transport := u, rolls := rolls }

theorem State.refund_withFilm (s : State) (u : TransportUnit) (rolls : List Roll) (n charge : Nat) :
    (s.withFilm u rolls).refund n charge = (s.refund n charge).withFilm u rolls := by
  have hstart (v : State) : (v.withFilm u rolls).startWrite = v.startWrite.withFilm u rolls := by
    unfold startWrite
    rw [show (v.withFilm u rolls).engineFree = v.engineFree from rfl,
      show (v.withFilm u rolls).store = v.store from rfl]
    split <;> rfl
  have hmark (v : State) : (v.withFilm u rolls).markAccount n = (v.markAccount n).withFilm u rolls := by
    unfold markAccount
    rw [show (v.withFilm u rolls).slotOf n = v.slotOf n from rfl]
    cases v.slotOf n with
    | none => rfl
    | some slot => exact hstart (v.dirtied (6 + slot))
  cases hfound : s.findAccount n with
  | none => rw [refund_of_missing (s := s.withFilm u rolls) hfound, refund_of_missing hfound]
  | some a =>
    rw [refund_of_found (s := s.withFilm u rolls) hfound, refund_of_found hfound]
    have hcomm : (s.withFilm u rolls).mapAccount n (Account.refunded charge) =
        (s.mapAccount n (Account.refunded charge)).withFilm u rolls := rfl
    rw [hcomm, hmark]
    exact (apply_ite (fun v : State => v.withFilm u rolls) _ _ _).symm

theorem State.refundFrames_withFilm (s : State) (u : TransportUnit) (rolls : List Roll) (frames : List Frame) :
    (s.withFilm u rolls).refundFrames frames = (s.refundFrames frames).withFilm u rolls := by
  induction frames generalizing s with
  | nil => rfl
  | cons f rest ih =>
    change ((s.withFilm u rolls).refund f.account f.charge).refundFrames rest = _
    rw [refund_withFilm, ih]
    rfl

theorem State.refund_exists_store (s : State) (n charge : Nat) :
    ∃ store, s.refund n charge = (s.mapAccount n (Account.refunded charge)).withStore store :=
  changeAccount_exists_store (f := Account.refunded charge) (fun _ => Account.low_of_refunded) s n

/-- Refunds reach the accounts and the store alone. -/
theorem State.refundFrames_records (s : State) (frames : List Frame) : s.refundFrames frames =
    { s with
      accounts := { s.accounts with slots := (s.refundFrames frames).accounts.slots }
      store := (s.refundFrames frames).store } := by
  induction frames generalizing s with
  | nil => rfl
  | cons f rest ih =>
    obtain ⟨store, hfirst⟩ := s.refund_exists_store f.account f.charge
    change (s.refund f.account f.charge).refundFrames rest = _
    rw [ih, hfirst]
    simp only [refundFrames, List.foldl_cons, hfirst]
    rfl

theorem State.refundFrames_places (s : State) (frames : List Frame) :
    (s.refundFrames frames).store.places = s.store.places := by
  induction frames generalizing s with
  | nil => rfl
  | cons f rest ih => exact (ih _).trans (s.changeAccount_places f.account _)

/-- The charges of the frames that were charged to an account. -/
def chargesTo (n : Nat) (frames : List Frame) : Nat := ((frames.filter fun f => f.account = n).map Frame.charge).sum

theorem Account.refunded_refunded (a : Account) (j k : Nat) : (a.refunded j).refunded k = a.refunded (j + k) := by
  simp only [refunded, Nat.sub_sub]

theorem State.findAccount_refund (s : State) (n charge m : Nat) : (s.refund n charge).findAccount m =
    (s.findAccount m).map fun a => if a.number = n then a.refunded charge else a :=
  findAccount_changeAccount (f := Account.refunded charge) (fun _ => rfl) s n m

theorem State.findAccount_refundFrames (s : State) (frames : List Frame) (n : Nat) :
    (s.refundFrames frames).findAccount n = (s.findAccount n).map (Account.refunded (chargesTo n frames)) := by
  induction frames generalizing s with
  | nil => exact (congrFun Option.map_id (s.findAccount n)).symm
  | cons f rest ih =>
    change ((s.refund f.account f.charge).refundFrames rest).findAccount n = _
    rw [ih, findAccount_refund, Option.map_map]
    refine Option.map_congr fun a ha => ?_
    rw [Function.comp_apply, findAccount_number ha]
    by_cases hn : n = f.account
    · simp [chargesTo, hn, Account.refunded_refunded]
    · simp [chargesTo, hn, Ne.symm hn]

theorem State.slotOf_refundFrames (s : State) (frames : List Frame) (n : Nat) :
    (s.refundFrames frames).slotOf n = s.slotOf n := by
  induction frames generalizing s with
  | nil => rfl
  | cons f rest ih =>
    obtain ⟨store, hfirst⟩ := s.refund_exists_store f.account f.charge
    change ((s.refund f.account f.charge).refundFrames rest).slotOf n = _
    rw [ih, hfirst]
    exact slotOf_mapAccount (f := Account.refunded f.charge) (fun _ => rfl) s f.account n

/-! ## The places of the accounts whose spent fell (R146, R166) -/

/-- A place is dirty or being written. -/
def SettingsStore.marked (t : SettingsStore) (p : Nat) : Prop :=
  t.dirty.getD p false = true ∨ ∃ w, t.engine = some w ∧ w.place = p

theorem getD_set_of_lt {α : Type} {l : List α} {i : Nat} (h : i < l.length) (j : Nat) (v d : α) :
    (l.set i v).getD j d = if j = i then v else l.getD j d := by
  by_cases hj : j = i
  · simp [hj, h]
  · simp [hj, List.getElem?_set_ne (Ne.symm hj)]

/-- The engine takes a dirty place and no other mark. -/
theorem State.startWrite_marked (s : State) (p : Nat) :
    (s.store.marked p → s.startWrite.store.marked p) ∧
      (s.startWrite.store.dirty.getD p false = true → s.store.dirty.getD p false = true) ∧
      s.startWrite.store.dirty.length = s.store.dirty.length := by
  unfold startWrite
  split
  next q hfree hlowest =>
    obtain ⟨hengine, -⟩ := s.engineFree_iff.mp hfree
    obtain ⟨hlt, -⟩ := List.findIdx?_eq_some_iff_getElem.mp hlowest
    simp only [SettingsStore.marked, withStore_store, hengine, getD_set_of_lt hlt, List.length_set]
    by_cases hp : p = q
    · simp [hp]
    · simp only [hp, if_false, and_true]
      exact ⟨fun h => .inl (h.resolve_right (by simp)), id⟩
  · exact ⟨id, id, rfl⟩

theorem getD_set_true {l : List Bool} {i p : Nat} :
    (l.set i true).getD p false = true ↔ (p = i ∧ i < l.length) ∨ l.getD p false = true := by
  by_cases hi : i < l.length
  · rw [getD_set_of_lt hi]
    by_cases hp : p = i <;> simp [hp, hi]
  · simp [List.set_eq_of_length_le (Nat.le_of_not_lt hi), hi]

theorem State.findAccount_refund_eq (s : State) (n charge m : Nat) : (s.refund n charge).findAccount m =
    (s.findAccount m).map (Account.refunded (if m = n then charge else 0)) := by
  rw [findAccount_refund]
  refine Option.map_congr fun b hb => ?_
  rw [findAccount_number hb]
  split <;> rfl

theorem State.slotOf_refund (s : State) (n charge m : Nat) : (s.refund n charge).slotOf m = s.slotOf m :=
  s.slotOf_refundFrames [{ Frame.blank with account := n, charge := charge }] m

/-- A refund lowers the spent of its account alone. -/
theorem State.eq_of_refund_spent_ne (s : State) {n charge m : Nat} {a b : Account} (ha : s.findAccount m = some a)
    (hb : (s.refund n charge).findAccount m = some b) (hne : b.spent ≠ a.spent) :
    m = n ∧ a.spent - charge ≠ a.spent := by
  rw [findAccount_refund_eq, ha] at hb
  obtain rfl := Option.some.inj hb
  by_cases hm : m = n
  · rw [if_pos hm] at hne
    exact ⟨hm, hne⟩
  · rw [if_neg hm] at hne
    exact absurd rfl hne

/-- The account of a refund has a place, and its spent falls. -/
def State.RefundMarks (s : State) (n charge : Nat) : Prop :=
  ∃ a i, s.findAccount n = some a ∧ s.slotOf n = some i ∧ a.spent - charge ≠ a.spent

theorem State.refund_store_of_not_marks {s : State} {n charge : Nat} (h : ¬ s.RefundMarks n charge) :
    (s.refund n charge).store = s.store := by
  cases ha : s.findAccount n with
  | none => rw [refund_of_missing ha]
  | some a =>
    cases hi : s.slotOf n with
    | none =>
      have hslot : (s.mapAccount n (Account.refunded charge)).slotOf n = none :=
        (slotOf_mapAccount (f := Account.refunded charge) (fun _ => rfl) s n n).trans hi
      rw [refund_of_found ha, markAccount, hslot, ite_self]
      rfl
    | some i =>
      rw [refund_eq ha hi, if_neg fun hspent => h ⟨a, i, ha, hi, hspent⟩]
      rfl

/-- What refunds leave of the accounts found and of the marks: the places of the accounts whose spent fell are marked,
and no other place becomes dirty. -/
structure State.RefundsTo (s t : State) : Prop where
  amounts : ∀ n, ∃ k, t.findAccount n = (s.findAccount n).map (Account.refunded k)
  slots : ∀ n, t.slotOf n = s.slotOf n
  length : t.store.dirty.length = s.store.dirty.length
  keeps : ∀ p, s.store.marked p → t.store.marked p
  fell : ∀ n i a b, s.findAccount n = some a → s.slotOf n = some i → t.findAccount n = some b → b.spent ≠ a.spent →
    6 + i < s.store.dirty.length → t.store.marked (6 + i)
  only : ∀ p, t.store.dirty.getD p false = true → s.store.dirty.getD p false = true ∨
    ∃ n i a b, p = 6 + i ∧ s.slotOf n = some i ∧ s.findAccount n = some a ∧ t.findAccount n = some b ∧ b.spent ≠ a.spent

namespace State.RefundsTo

theorem refl (s : State) : s.RefundsTo s where
  amounts n := ⟨0, (congrFun Option.map_id (s.findAccount n)).symm⟩
  slots _ := rfl
  length := rfl
  keeps _ := id
  fell _ _ _ _ ha _ hb hne := absurd (congrArg Account.spent (Option.some.inj (hb.symm.trans ha))) hne
  only _ := .inl

/-- Spent does not rise. -/
theorem spent_le {s t : State} (h : s.RefundsTo t) {n : Nat} {a b : Account} (ha : s.findAccount n = some a)
    (hb : t.findAccount n = some b) : b.spent ≤ a.spent := by
  obtain ⟨k, hk⟩ := h.amounts n
  rw [ha, hb, Option.map_some] at hk
  obtain rfl := Option.some.inj hk
  exact Nat.sub_le _ _

theorem exists_before {s t : State} (h : s.RefundsTo t) {n : Nat} {b : Account} (hb : t.findAccount n = some b) :
    ∃ a, s.findAccount n = some a := by
  obtain ⟨k, hk⟩ := h.amounts n
  rw [hb] at hk
  obtain ⟨a, ha, -⟩ := Option.map_eq_some_iff.mp hk.symm
  exact ⟨a, ha⟩

theorem exists_after {s t : State} (h : s.RefundsTo t) {n : Nat} {a : Account} (ha : s.findAccount n = some a) :
    ∃ b, t.findAccount n = some b := by
  obtain ⟨k, hk⟩ := h.amounts n
  exact ⟨_, by rw [hk, ha, Option.map_some]⟩

theorem trans {s t u : State} (first : s.RefundsTo t) (second : t.RefundsTo u) : s.RefundsTo u where
  amounts n := by
    obtain ⟨j, hj⟩ := first.amounts n
    obtain ⟨k, hk⟩ := second.amounts n
    refine ⟨j + k, ?_⟩
    rw [hk, hj, Option.map_map]
    exact Option.map_congr fun a _ => a.refunded_refunded j k
  slots n := (second.slots n).trans (first.slots n)
  length := second.length.trans first.length
  keeps p hp := second.keeps p (first.keeps p hp)
  fell n i a c ha hi hc hne hlt := by
    obtain ⟨b, hb⟩ := first.exists_after ha
    by_cases hfirst : b.spent = a.spent
    · exact second.fell n i b c hb ((first.slots n).trans hi) hc (hfirst ▸ hne) (first.length ▸ hlt)
    · exact second.keeps _ (first.fell n i a b ha hi hb hfirst hlt)
  only p hp := by
    obtain hmid | ⟨n, i, b, c, rfl, hi, hb, hc, hne⟩ := second.only p hp
    · obtain hbefore | ⟨n, i, a, b, rfl, hi, ha, hb, hne⟩ := first.only p hmid
      · exact .inl hbefore
      · obtain ⟨c, hc⟩ := second.exists_after hb
        refine .inr ⟨n, i, a, c, rfl, hi, ha, hc, ?_⟩
        have := first.spent_le ha hb
        have := second.spent_le hb hc
        omega
    · obtain ⟨a, ha⟩ := first.exists_before hb
      refine .inr ⟨n, i, a, c, rfl, (first.slots n).symm.trans hi, ha, hc, ?_⟩
      have := first.spent_le ha hb
      have := second.spent_le hb hc
      omega

theorem refund (s : State) (n charge : Nat) : s.RefundsTo (s.refund n charge) := by
  by_cases hmark : s.RefundMarks n charge
  · obtain ⟨a, i, ha, hi, hspent⟩ := hmark
    have hstore : (s.refund n charge).store = ((s.mapAccount n (Account.refunded charge)).dirtied (6 + i)).startWrite.store := by
      rw [refund_eq ha hi, if_pos hspent, markDirty_eq]
    have hset : ((s.mapAccount n (Account.refunded charge)).dirtied (6 + i)).store.dirty =
      s.store.dirty.set (6 + i) true := rfl
    have hengine := fun p => ((s.mapAccount n (Account.refunded charge)).dirtied (6 + i)).startWrite_marked p
    simp only [← hstore, hset, List.length_set] at hengine
    refine ⟨fun m => ⟨_, s.findAccount_refund_eq n charge m⟩, s.slotOf_refund n charge, (hengine 0).2.2, fun p hp => ?_,
      fun m j b c hb hj hc hne hlt => ?_, fun p hp => ?_⟩
    · refine (hengine p).1 (hp.imp_left fun hdirty => ?_)
      exact getD_set_true.mpr (.inr hdirty)
    · obtain ⟨rfl, -⟩ := s.eq_of_refund_spent_ne hb hc hne
      obtain rfl := Option.some.inj (hi.symm.trans hj)
      exact (hengine _).1 (.inl (getD_set_true.mpr (.inl ⟨rfl, hlt⟩)))
    · obtain ⟨rfl, -⟩ | hbefore := getD_set_true.mp ((hengine p).2.1 hp)
      · have hafter := s.findAccount_refund_eq n charge n
        rw [ha, if_pos rfl] at hafter
        exact .inr ⟨n, i, a, _, rfl, hi, ha, hafter, hspent⟩
      · exact .inl hbefore
  · have hstore := refund_store_of_not_marks hmark
    refine ⟨fun m => ⟨_, s.findAccount_refund_eq n charge m⟩, s.slotOf_refund n charge, by rw [hstore], fun p hp => hstore ▸ hp,
      fun m j b c hb hj hc hne _ => ?_, fun p hp => .inl (hstore ▸ hp)⟩
    obtain ⟨rfl, hspent⟩ := s.eq_of_refund_spent_ne hb hc hne
    exact absurd ⟨b, j, hb, hj, hspent⟩ hmark

theorem refundFrames (s : State) (frames : List Frame) : s.RefundsTo (s.refundFrames frames) := by
  induction frames generalizing s with
  | nil => exact refl s
  | cons f rest ih => exact (refund s f.account f.charge).trans (ih _)

end State.RefundsTo

end Sys2Proof.Machine
end


section
/-! PROOFS. The removal of a magazine: cleared, sent out or fogged (R83, R84, R108 to R110). -/

namespace Sys2Proof.Machine

/-! ## The transport after a removal -/

theorem exec_magazineRemoval {s : State} (h : ¬ (s.transport.detect1 = true ∧ s.transport.detect2 = true)) :
    exec .magazineRemoval s = .next s.removeMagazine := by
  have hexec : exec .magazineRemoval s = .next (if s.transport.reading = .both then s else s.removeMagazine) := rfl
  rw [hexec, if_neg (mt s.transport.reading_eq_both.mp h)]

/-- The transport after a removal with a contact open (R83, R84). -/
theorem TransportUnit.removed_eq {t : TransportUnit} (h : ¬ (t.detect1 = true ∧ t.detect2 = true)) : t.removed =
    { t with
      state := if t.detect1 = false ∧ t.detect2 = false then .empty else .seating
      loadedKind := none, roll := none, currentFrame := 0, motor := .off, pulseCount := 0, pulseSeen := false
      advanceFor := none, openFor := none
      fromMisseated := if t.detect1 = false ∧ t.detect2 = false then t.fromMisseated else false } := by
  rw [removed, meetReading_eq]
  cases h1 : t.detect1 <;> cases h2 : t.detect2 <;> simp_all

theorem State.clearMagazine_false (s : State) :
    s.clearMagazine false = { s with transport := s.transport.removed, notices := s.notices.noting 8 } := rfl

theorem NoticeUnit.noting_noting (n : NoticeUnit) (a b : NoticeSet) : (n.noting a).noting b = n.noting (a ||| b) := by
  simp only [noting, BitVec.or_assoc]

theorem State.clearMagazine_true (s : State) :
    s.clearMagazine true = { s with transport := s.transport.removed, notices := s.notices.noting 24 } := by
  change { s with transport := s.transport.removed, notices := (s.notices.noting 16).noting 8 } = _
  rw [NoticeUnit.noting_noting]
  rfl

/-! ## The fogging removal -/

/-- The roll of a fogging removal (R109). -/
def Roll.fogged (r : Roll) : Roll := { r with state := .fogged, frames := r.frames.map Frame.fog }

/-- The EXPOSED frames of a roll. -/
def Roll.exposedFrames (r : Roll) : List Frame := r.frames.filter fun f => f.state = .exposed

/-- How many EXPOSED frames of a roll each order has. -/
def Roll.exposedOf (r : Roll) (id : Nat) : Nat := r.frames.countP fun f => f.state = .exposed ∧ f.order = id

theorem Roll.chargesTo_exposedFrames (r : Roll) (m : Nat) : chargesTo m r.exposedFrames =
    ((r.frames.filter fun f => f.state = .exposed ∧ f.account = m).map Frame.charge).sum := by
  simp only [chargesTo, exposedFrames, List.filter_filter, Bool.decide_and, Bool.and_comm]

/-- The stand after a fogging removal's refunds, and before its orders are told of the labels. -/
def State.refundedFor (s : State) (u : TransportUnit) (n : Nat) (r : Roll) : State :=
  (s.refundFrames r.exposedFrames).withFilm u (s.rolls.map fun p => if p.number = n then p.fogged else p)

/-- A fogging removal at the Roll Table: the refunds first, then what the orders give up (R109, R110). -/
theorem State.fogRoll_givesUp {s : State} {n : Nat} {r : Roll} {u : TransportUnit} (hroll : u.roll = some n)
    (hfound : s.findRoll n = some r) (hdistinct : (s.orders.table.map Order.id).Nodup) :
    (s.refundedFor u n r).GivesUp r.exposedOf (s.withTransport u).fogRoll := by
  have hnumber := findRoll_number hfound
  have hfog : (s.withTransport u).fogRoll =
      (s.refundedFor u n r).reportRejected (r.exposedFrames.map fun f => (0, f)) := by
    have hbind : (s.withTransport u).transport.roll.bind (s.withTransport u).findRoll = some r := by
      rw [withTransport_transport, hroll]
      exact hfound
    simp only [fogRoll, hbind, foldl_settleFogged]
    rw [reportRejected, List.foldl_map, refundedFor, ← refundFrames_withFilm, ← hnumber]
    rfl
  have hcount : r.exposedOf = fun id => (r.exposedFrames.map fun f => (0, f)).countP fun e => e.2.order = id := by
    funext id
    simp only [Roll.exposedOf, Roll.exposedFrames, List.countP_map, List.countP_filter, Function.comp_def, Bool.decide_and,
      Bool.and_comm]
  have hkept : (s.refundedFor u n r).orders = s.orders := by
    rw [refundedFor, refundFrames_records]
    rfl
  rw [hfog, hcount]
  exact reportRejected_givesUp (hkept ▸ hdistinct) _

section
variable {s y : State} {n : Nat} {r : Roll} {u : TransportUnit}

/-- What a fogged roll leaves besides the accounts: the rolls, the labels owed, and the places of the refunds. -/
theorem State.records_of_fogged (h : (s.refundedFor u n r).GivesUp r.exposedOf y) : y =
    { s with
      transport := u
      rolls := s.rolls.map fun p => if p.number = n then p.fogged else p
      orders := { s.orders with table := s.orders.table.map fun q => q.giveUp (r.exposedOf q.id) }
      accounts := y.accounts
      store := (s.refundFrames r.exposedFrames).store } := by
  have hrefunded : s.refundedFor u n r =
      { s with
        transport := u
        rolls := s.rolls.map fun p => if p.number = n then p.fogged else p
        accounts := (s.refundedFor u n r).accounts
        store := (s.refundFrames r.exposedFrames).store } := by
    unfold refundedFor
    rw [refundFrames_records]
    rfl
  rw [h.records, hrefunded]

/-- What a fogged roll leaves of an account: its frames' charges refunded, its labels' rates no longer held. -/
theorem State.account_of_fogged (h : (s.refundedFor u n r).GivesUp r.exposedOf y) (m : Nat) : y.findAccount m =
    (s.findAccount m).map fun a =>
      (a.refunded (chargesTo m r.exposedFrames)).lowerHeld (s.givenUpFor m r.exposedOf) := by
  have hsum : (s.refundedFor u n r).givenUpFor m r.exposedOf = s.givenUpFor m r.exposedOf := by
    rw [refundedFor, refundFrames_records]
    rfl
  have hfind : (s.refundedFor u n r).findAccount m =
      (s.findAccount m).map (Account.refunded (chargesTo m r.exposedFrames)) := s.findAccount_refundFrames r.exposedFrames m
  rw [h.held, hsum, hfind, Option.map_map]
  rfl

end

theorem State.fogMagazine_eq (s : State) : s.fogMagazine =
    (((s.cutShort .magazineRemoved false false).withTransport { s.transport with motor := .off }).fogRoll).clearMagazine true := by
  rw [fogMagazine, cutShort_withTransport (u := { s.transport with motor := .off }) s rfl rfl]

theorem State.removeMagazine_fogs {s : State} {n : Nat} (hstate : s.transport.state = .leader ∨ s.transport.state = .ready ∨
      s.transport.state = .advancing ∨ s.transport.state = .atEnd ∨ s.transport.state = .rewinding ∨
      s.transport.state = .jammed) (hroll : s.transport.roll = some n) : s.removeMagazine = s.fogMagazine := by
  unfold removeMagazine
  rcases hstate with h | h | h | h | h | h <;> rw [h, hroll]

/-- The order of a removal is cut short without an advance (R20, R84). -/
theorem State.cutShort_removed (s : State) : s.cutShort .magazineRemoved false false =
    match s.activeOrder with
    | none => s
    | some o => State.finishOrder (match s.exposure.purpose with
        | some .orderPass => s.abandonPass
        | some (.exposure _ _) => s.abortExposure false
        | _ => s) o.id (.cutShort .magazineRemoved) := by
  rw [cutShort]
  cases s.activeOrder with
  | none => rfl
  | some o =>
    rw [dropOrderLighting]
    rcases s.exposure.purpose with _ | _ | _ | _ | _ <;> rfl

/-- Settles O53: nothing, cleared, sent out, or fogged, by the state of the transport. -/
theorem removalsFogOrClear : Obligations.RemovalsFogOrClear := by
  intro s cleared hopen hcleared
  have hremoved : s.transport.removed = cleared := (TransportUnit.removed_eq hopen).trans hcleared.symm
  rw [exec_magazineRemoval hopen]
  refine ⟨fun hstate => ?_, fun hstate => ?_, fun n hstate hroll => ?_,
    fun n r cut fogged given hstate hroll hdistinct hcut hfound hfogged hgiven => ?_⟩
  · rcases hstate with h | h | h <;> simp only [State.removeMagazine, h]
  · rw [← hremoved, ← State.clearMagazine_false]
    rcases hstate with h | ⟨hroll, h | h | h⟩
    · simp only [State.removeMagazine, h]
    all_goals simp only [State.removeMagazine, h, hroll]
  · have hout : s.removeMagazine = s.rollOut.clearMagazine false := by simp only [State.removeMagazine, hstate, hroll]
    rw [hout, ← hremoved, State.clearMagazine_false, State.rollOut, State.mapRollInCamera_eq]
    simp only [hroll, Option.some.injEq, eq_comm]
  · replace hcut : cut = s.cutShort .magazineRemoved false false := hcut.trans s.cutShort_removed.symm
    have hids : (cut.orders.table.map Order.id).Nodup := by rwa [hcut, State.cutShort_ids]
    have hgives := State.fogRoll_givesUp (u := { s.transport with motor := .off }) hroll hfound hids
    have hrefunds := State.RefundsTo.refundFrames cut r.exposedFrames
    rw [State.removeMagazine_fogs hstate hroll, State.fogMagazine_eq, ← hcut, State.clearMagazine_true]
    generalize (cut.withTransport { s.transport with motor := .off }).fogRoll = y at hgives
    have hrecords := State.records_of_fogged hgives
    have haccount := State.account_of_fogged hgives
    have hspent {m : Nat} {a b' b : Account} (ha : cut.findAccount m = some a)
        (hb' : (cut.refundFrames r.exposedFrames).findAccount m = some b') (hb : y.findAccount m = some b) :
        b.spent = b'.spent := by
      rw [cut.findAccount_refundFrames, ha] at hb'
      rw [haccount, ha] at hb
      obtain rfl := Option.some.inj hb'
      obtain rfl := Option.some.inj hb
      rfl
    have htransport : y.transport.removed = cleared := by
      rw [hrecords, ← hremoved]
      rfl
    refine ⟨_, rfl, htransport, by rw [hrecords], by rw [hrecords], by rw [hrecords], by rw [hrecords], ?_, by rw [hrecords]; rfl, ?_,
      fun m a ha => ?_, by rw [hrecords]; rfl, fun m i a b ha hi hb hne hlt => ?_, fun p hp => ?_, ?_⟩
    · have hplaces : cut.store.places = s.store.places := by rw [hcut, State.cutShort_store]
      rw [hrecords]
      exact (cut.refundFrames_places r.exposedFrames).trans hplaces
    · rw [hrecords, hfogged]
      rfl
    · have hb : y.findAccount m = _ := haccount m
      rw [ha, Option.map_some] at hb
      refine ⟨_, hb, ?_, fun _ => ?_⟩
      · rw [r.chargesTo_exposedFrames]
        rfl
      · rw [hgiven, hfogged]
        rfl
    · obtain ⟨b', hb'⟩ := hrefunds.exists_after ha
      rw [hspent ha hb' hb] at hne
      have hmarked := hrefunds.fell m i a b' ha hi hb' hne hlt
      rw [hrecords]
      exact hmarked
    · rw [hrecords] at hp
      refine (hrefunds.only p hp).imp_right ?_
      rintro ⟨m, i, a, b', rfl, hi, ha, hb', hne⟩
      have hb := haccount m
      rw [ha, Option.map_some] at hb
      exact ⟨m, i, a, _, rfl, hi, ha, hb, (hspent ha hb' hb).symm ▸ hne⟩
    · have hkept : y.power = s.power ∧ y.line = s.line ∧ y.films = s.films ∧ y.calibration = s.calibration ∧
          y.labels = s.labels ∧ y.panel = s.panel ∧ y.pending = s.pending := by
        rw [hrecords, hcut]
        simp
      obtain ⟨hpower, hline, hfilms, hcalibration, hlabels, hpanel, hpending⟩ := hkept
      simp only [hpower, hline, hfilms, hcalibration, hlabels, hpanel, hpending, htransport]

end Sys2Proof.Machine
end


section
/-! PROOFS. What a finish and a spoiled frame leave of the orders, the accounts and the film (R14, R24). -/

namespace Sys2Proof.Machine

/-! ## The order of an id, rewritten but for what it gives back -/

/-- The order of an id is rewritten, up to what orders give back; no other order changes. -/
def State.Rewrites (s : State) (id : Nat) (h : Order → Order) (t : State) : Prop :=
  ∃ g : Order → Order, (∀ q, (g q).unheld = (h q).unheld) ∧
    t.orders.table = s.orders.table.map fun q => if q.id = id then g q else q

/-- Of the accounts found, held alone may fall. -/
def State.HeldFalls (s t : State) : Prop := ∀ n, ∃ k, t.findAccount n = (s.findAccount n).map fun a => a.lowerHeld k

theorem State.HeldFalls.refl (s : State) : s.HeldFalls s := fun n => ⟨0, (congrFun Option.map_id (s.findAccount n)).symm⟩

theorem State.HeldFalls.trans {s t u : State} (first : s.HeldFalls t) (second : t.HeldFalls u) : s.HeldFalls u := fun n => by
  obtain ⟨j, hj⟩ := first n
  obtain ⟨k, hk⟩ := second n
  exact ⟨j + k, by simp [hk, hj, Function.comp_def, Account.lowerHeld_lowerHeld]⟩

theorem State.Rewrites.refl (s : State) (id : Nat) : s.Rewrites id (fun q => q) s := ⟨fun q => q, fun _ => rfl, by simp⟩

theorem State.Rewrites.trans {s t u : State} {id : Nat} {h k : Order → Order} (first : s.Rewrites id h t)
    (second : t.Rewrites id k u) (hid : ∀ q, (h q).id = q.id) (hk : ∀ q, (k q).unheld = k q.unheld) :
    s.Rewrites id (fun q => k (h q)) u := by
  obtain ⟨g, hg, htable⟩ := first
  obtain ⟨g', hg', hafter⟩ := second
  refine ⟨fun q => g' (g q), fun q => ?_, ?_⟩
  · rw [hg', hk, hg, hk]
  · rw [hafter, htable, List.map_map]
    refine List.map_congr_left fun q _ => ?_
    by_cases hq : q.id = id
    · simp [hq, Order.id_of_unheld (hg q), hid]
    · simp [hq]

theorem State.mapOrder_rewrites (s : State) (id : Nat) (h : Order → Order) : s.Rewrites id h (s.mapOrder id h) :=
  ⟨h, fun _ => rfl, rfl⟩

theorem State.Unholds.rewrites {s t : State} {id : Nat} (h : s.Unholds id t) : s.Rewrites id (fun q => q) t := h.orders

/-! ## The finish -/

theorem State.finishOrder_rewrites {s : State} {o : Order} (h : s.findOrder o.id = some o) (final : OrderState) :
    s.Rewrites o.id (Order.ended final) (s.finishOrder o.id final) := by
  rw [finishOrder_eq h]
  exact (s.mapOrder_rewrites o.id (Order.ended final)).trans (Unholds.unmadeBack _ o).rewrites (fun _ => rfl) fun _ => rfl

theorem State.finishOrder_heldFalls (s : State) (id : Nat) (final : OrderState) : s.HeldFalls (s.finishOrder id final) := by
  cases hfound : s.findOrder id with
  | none =>
    have hsame : s.finishOrder id final = s := by simp only [finishOrder, hfound]
    rw [hsame]
    exact .refl s
  | some o =>
    rw [finishOrder_eq hfound]
    exact (Unholds.unmadeBack (s.mapOrder id (Order.ended final)) o).held

theorem State.finishOrder_accounts (s : State) (id : Nat) (final : OrderState) : (s.finishOrder id final).accounts =
    { s.accounts with slots := (s.finishOrder id final).accounts.slots } := by
  cases hfound : s.findOrder id with
  | none => simp only [finishOrder, hfound]
  | some o =>
    rw [finishOrder_eq hfound]
    exact (Unholds.unmadeBack (s.mapOrder id (Order.ended final)) o).accounts

theorem State.finishOrder_notices {s : State} {id : Nat} {o : Order} (h : s.findOrder id = some o) (final : OrderState) :
    (s.finishOrder id final).notices = { s.notices.noting Notice.orderFinished.bit with lastFinished := id } := by
  have hnotices : ((s.mapOrder id (Order.ended final)).unmadeBack o).notices = s.notices :=
    (Unholds.unmadeBack (s.mapOrder id (Order.ended final)) o).notices
  rw [finishOrder_eq h, concluded, hnotices]

/-! ## The spoiled frame, advanced past -/

/-- A frame spoiled, before the advance past it. -/
def State.spoiledFrame (s : State) (o : Order) : State :=
  ((s.recordFrame o .spoiled 0).frameBack o).mapOrder o.id (Order.spoiledAt s.transport)

theorem State.spoilFrame_true {s : State} {o : Order} (h : s.activeOrder = some o) :
    s.spoilFrame true = (s.spoiledFrame o).requestAdvance o.id := by
  rw [spoilFrame_eq h, if_pos rfl]
  rfl

theorem State.spoiledFrame_records (s : State) (o : Order) : s.spoiledFrame o =
    { s.recordFrame o .spoiled 0 with
      orders := { s.orders with table := (s.spoiledFrame o).orders.table }
      accounts := { s.accounts with slots := (s.spoiledFrame o).accounts.slots } } := by
  unfold spoiledFrame
  rw [(Unholds.frameBack (s.recordFrame o .spoiled 0) o).records, recordFrame_eq]
  rfl

theorem State.spoiledFrame_rewrites (s : State) (o : Order) :
    s.Rewrites o.id (Order.spoiledAt s.transport) (s.spoiledFrame o) := by
  have hback := (Unholds.frameBack (s.recordFrame o .spoiled 0) o).rewrites
  rw [Rewrites, recordFrame_orders] at hback
  exact Rewrites.trans (h := fun q => q) hback (mapOrder_rewrites _ o.id (Order.spoiledAt s.transport)) (fun _ => rfl)
    fun _ => rfl

theorem State.spoiledFrame_heldFalls (s : State) (o : Order) : s.HeldFalls (s.spoiledFrame o) := by
  have hback := (Unholds.frameBack (s.recordFrame o .spoiled 0) o).held
  rw [recordFrame_eq] at hback
  unfold spoiledFrame
  rw [recordFrame_eq]
  exact hback

/-! ## The work of an order that a cause cuts short (R19, R23) -/

/-- What a cause that ends a frame under way leaves of the film, the notices and the orders: the frame spoiled and
advanced past, or everything as it was. -/
structure State.LightDropped (s : State) (o : Order) (t : State) : Prop where
  order : s.Rewrites o.id (if s.exposureUnderWay then Order.spoiledAt s.transport else fun q => q) t
  active : t.orders.active = s.orders.active
  held : s.HeldFalls t
  accounts : t.accounts = { s.accounts with slots := t.accounts.slots }
  lastFinished : t.notices.lastFinished = s.notices.lastFinished
  enabled : t.notices.enabled = s.notices.enabled
  lastRefusal : t.notices.lastRefusal = s.notices.lastRefusal
  pending : t.notices.pending = s.notices.pending ∨ t.notices.pending = s.notices.pending ||| Notice.rollEnd.bit
  rolls : t.rolls = if s.exposureUnderWay then (s.recordFrame o .spoiled 0).rolls else s.rolls
  transport : t.transport = if s.exposureUnderWay then
      (if s.usableFrames ≤ s.transport.currentFrame then { s.transport with state := .atEnd }
      else { s.transport with
        state := .advancing, motor := .forward, pulseCount := 0, pulseSeen := false, quietTime := 0
        advanceFor := some o.id }) else s.transport

/-- A frame recorded leaves the usable frames (R105). -/
theorem State.usableFrames_recordFrame (s : State) (o : Order) (state : FrameState) (charge : Nat) :
    (s.recordFrame o state charge).usableFrames = s.usableFrames := by
  have hkept {f : Roll → Roll} (hnumber : ∀ r, (f r).number = r.number) (husable : ∀ r, (f r).usable = r.usable)
      (rolls : List Roll) (n : Nat) :
      ((rolls.map f).find? fun r => r.number = n).map Roll.usable = (rolls.find? fun r => r.number = n).map Roll.usable := by
    simp only [List.find?_map, Function.comp_def, hnumber, Option.map_map, husable]
  unfold usableFrames
  rw [recordFrame_eq]
  cases s.transport.roll with
  | none => rfl
  | some n =>
    refine congrArg (Option.getD · 0) (hkept (fun r => ?_) (fun r => ?_) s.rolls n)
    · split <;> rfl
    · split <;> rfl

/-- The advance past a spoiled frame (R14, R90). -/
theorem State.lightDropped_of_exposure {s : State} {o : Order} (h : s.activeOrder = some o)
    (hway : s.exposureUnderWay = true) : s.LightDropped o (s.abortExposure true) := by
  have hdark : s.endLighting.meterIdle.activeOrder = some o := h
  have hrecords := (s.endLighting.meterIdle).spoiledFrame_records o
  have hrewrites := (s.endLighting.meterIdle).spoiledFrame_rewrites o
  have hheld := (s.endLighting.meterIdle).spoiledFrame_heldFalls o
  rw [abortExposure, spoilFrame_true hdark, requestAdvance_eq]
  generalize (s.endLighting.meterIdle).spoiledFrame o = v at *
  rw [recordFrame_eq] at hrecords
  have husable : v.usableFrames = s.usableFrames := by
    rw [← s.usableFrames_recordFrame o .spoiled 0]
    refine usableFrames_congr ?_ ?_
    · rw [hrecords, recordFrame_transport]
      rfl
    · rw [hrecords, recordFrame_eq]
      rfl
  have htransport : v.transport = s.transport := by
    rw [hrecords]
    rfl
  have hnotices : v.notices = s.notices := by
    rw [hrecords]
    rfl
  have horder : s.Rewrites o.id (if s.exposureUnderWay then Order.spoiledAt s.transport else fun q => q) v := by
    rw [if_pos hway]
    exact hrewrites
  have hactive : v.orders.active = s.orders.active := by
    rw [hrecords]
    rfl
  have haccounts : v.accounts = { s.accounts with slots := v.accounts.slots } := by
    rw [hrecords]
    rfl
  have hrolls : v.rolls = if s.exposureUnderWay then (s.recordFrame o .spoiled 0).rolls else s.rolls := by
    rw [if_pos hway, recordFrame_eq, hrecords]
    rfl
  rw [husable, htransport, hnotices]
  by_cases hlast : s.usableFrames ≤ s.transport.currentFrame
  · rw [if_pos hlast]
    refine ⟨horder, hactive, hheld, haccounts, rfl, rfl, rfl, .inr rfl, hrolls, ?_⟩
    rw [if_pos hway, if_pos hlast]
  · rw [if_neg hlast]
    refine ⟨horder, hactive, hheld, haccounts, rfl, rfl, rfl, .inl rfl, hrolls, ?_⟩
    rw [if_pos hway, if_neg hlast]

/-- Without an exposure under way the film and the orders are left alone (R73). -/
theorem State.lightDropped_of_not_exposure {s : State} (o : Order) (hway : s.exposureUnderWay = false) :
    s.LightDropped o (s.dropOrderLighting true) := by
  have hrest (t : State) (horders : t.orders = s.orders) (haccounts : t.accounts = s.accounts)
      (hnotices : t.notices = s.notices) (hrolls : t.rolls = s.rolls) (htransport : t.transport = s.transport) :
      s.LightDropped o t := by
    refine ⟨?_, by rw [horders], ?_, by rw [haccounts], by rw [hnotices], by rw [hnotices], by rw [hnotices],
      .inl (by rw [hnotices]), by rw [hway, hrolls]; rfl, by rw [hway, htransport]; rfl⟩
    · rw [hway, Rewrites, horders]
      exact Rewrites.refl s o.id
    · intro n
      rw [show t.findAccount n = s.findAccount n by rw [findAccount, haccounts]; rfl]
      exact HeldFalls.refl s n
  unfold dropOrderLighting
  unfold exposureUnderWay at hway
  rcases hpurpose : s.exposure.purpose with _ | _ | _ | _ | _
  case some.exposure => simp [hpurpose] at hway
  all_goals exact hrest _ rfl rfl rfl rfl rfl

theorem State.dropOrderLighting_lightDropped {s : State} {o : Order} (h : s.activeOrder = some o) :
    s.LightDropped o (s.dropOrderLighting true) := by
  cases hway : s.exposureUnderWay with
  | false => exact lightDropped_of_not_exposure o hway
  | true =>
    have habort : s.dropOrderLighting true = s.abortExposure true := by
      unfold exposureUnderWay at hway
      unfold dropOrderLighting
      split at hway
      next hpurpose => rw [hpurpose]
      next => cases hway
    rw [habort]
    exact lightDropped_of_exposure h hway

end Sys2Proof.Machine
end


section
/-! PROOFS. A Restart that takes effect ends the work: the order, the light, the notices and the printer (R196). -/

namespace Sys2Proof.Machine

/-! ## The orders -/

section
variable {s t : State} {o : Order} {h : Order → Order}

/-- The active order is the one in METERING, EXPOSING or PAUSED. -/
theorem State.isActive_iff_eq (hmark : s.markHolds) (ho : s.activeOrder = some o) {q : Order} (hq : q ∈ s.orders.table) :
    q.state.isActive = true ↔ q.id = o.id := by
  obtain ⟨-, hactive, -⟩ := activeOrder_eq_some ho
  rw [hmark.2.1 q hq, hactive, Option.some.injEq, eq_comm]

theorem State.eq_activeOrder (hmark : s.markHolds) (ho : s.activeOrder = some o) {q : Order} (hq : q ∈ s.orders.table)
    (hid : q.id = o.id) : q = o := by
  obtain ⟨-, -, hfound⟩ := activeOrder_eq_some ho
  exact eq_of_findOrder hmark.1 hfound hq hid

theorem State.Rewrites.findOrder {id : Nat} (hr : s.Rewrites id h t) (hid : ∀ q, (h q).id = q.id)
    (ho : s.findOrder id = some o) : ∃ p, t.findOrder id = some p ∧ p.id = id := by
  obtain ⟨g, hg, htable⟩ := hr
  have hkept (q : Order) : (g q).id = q.id := (Order.id_of_unheld (hg q)).trans (hid q)
  have hfound : (s.mapOrder id g).findOrder id = some (g o) := findOrder_mapOrder hkept ho
  refine ⟨g o, ?_, (hkept o).trans (findOrder_some ho).2⟩
  rw [State.findOrder, htable]
  exact hfound

/-- The other orders keep their records. -/
theorem State.Rewrites.others (hr : s.Rewrites o.id h t) (hmark : s.markHolds) (ho : s.activeOrder = some o) {i : Nat}
    {q : Order} (hq : s.orders.table[i]? = some q) (hinactive : q.state.isActive = false) :
    t.orders.table[i]? = some q := by
  obtain ⟨g, -, htable⟩ := hr
  have hother : q.id ≠ o.id := fun hid => by
    rw [← isActive_iff_eq hmark ho (List.mem_of_getElem? hq), hinactive] at hid
    cases hid
  rw [htable, List.getElem?_map, hq, Option.map_some, if_neg hother]

/-- The active order is rewritten. -/
theorem State.Rewrites.ended (hr : s.Rewrites o.id h t) (hmark : s.markHolds) (ho : s.activeOrder = some o) {i : Nat}
    {q : Order} (hq : s.orders.table[i]? = some q) (hactive : q.state.isActive = true) :
    q = o ∧ ∃ p, t.orders.table[i]? = some p ∧ p.unheld = (h q).unheld := by
  obtain ⟨g, hg, htable⟩ := hr
  have hmem := List.mem_of_getElem? hq
  have hid := (isActive_iff_eq hmark ho hmem).mp hactive
  refine ⟨eq_activeOrder hmark ho hmem hid, g q, ?_, hg q⟩
  rw [htable, List.getElem?_map, hq, Option.map_some, if_pos hid]

theorem State.Rewrites.inactive (hr : s.Rewrites o.id h t) (hmark : s.markHolds) (ho : s.activeOrder = some o)
    (hend : ∀ q, (h q).state.isActive = false) : ∀ p ∈ t.orders.table, p.state.isActive = false := fun p hp => by
  obtain ⟨g, hg, htable⟩ := hr
  rw [htable] at hp
  obtain ⟨q, hq, rfl⟩ := List.mem_map.mp hp
  by_cases hid : q.id = o.id
  · have hstate : (g q).unheld.state = (h q).unheld.state := congrArg Order.state (hg q)
    rw [if_pos hid]
    exact (congrArg OrderState.isActive hstate).trans (hend q)
  · rw [if_neg hid]
    exact Bool.eq_false_iff.mpr (mt (isActive_iff_eq hmark ho hq).mp hid)

end

/-- What a Restart leaves of the orders, the accounts, the notices and the film. -/
structure State.WorkEnds (s t : State) : Prop where
  active : t.orders.active = none
  inactive : ∀ o ∈ t.orders.table, o.state.isActive = false
  others : ∀ (i : Nat) (o : Order), s.orders.table[i]? = some o → o.state.isActive = false →
    t.orders.table[i]? = some o
  ended : ∀ (i : Nat) (o : Order), s.orders.table[i]? = some o → o.state.isActive = true →
    ∃ p, t.orders.table[i]? = some p ∧ p.state = .cutShort .restart ∧ p.cancelRequested = false ∧ p.exposed = o.exposed ∧
      p.spoiled = o.spoiled + (if s.exposureUnderWay then 1 else 0) ∧ t.notices.lastFinished = o.id
  lastFinished : s.orders.active = none → t.notices.lastFinished = s.notices.lastFinished
  enabled : t.notices.enabled = s.notices.enabled
  lastRefusal : t.notices.lastRefusal = s.notices.lastRefusal
  pending : t.notices.pending = s.notices.pending ∨ t.notices.pending = s.notices.pending ||| Notice.orderFinished.bit ∨
    t.notices.pending = s.notices.pending ||| Notice.rollEnd.bit ||| Notice.orderFinished.bit
  held : s.HeldFalls t
  accounts : t.accounts = { s.accounts with slots := t.accounts.slots }
  film : s.exposureUnderWay = false → t.transport = s.transport ∧ t.rolls = s.rolls
  spoiled : s.exposureUnderWay = true → ∀ o, s.activeOrder = some o →
    t.rolls = (s.recordFrame o .spoiled 0).rolls ∧
      t.transport = if s.usableFrames ≤ s.transport.currentFrame then { s.transport with state := .atEnd }
        else { s.transport with
          state := .advancing, motor := .forward, pulseCount := 0, pulseSeen := false, quietTime := 0
          advanceFor := some o.id }

/-- Without an active order nothing of an order ends. -/
theorem State.workEnds_self {s : State} (hmark : s.markHolds) (h : s.activeOrder = none)
    (hway : s.exposureUnderWay = false) : s.WorkEnds s := by
  have hinactive : ∀ o ∈ s.orders.table, o.state.isActive = false := fun o ho => by
    by_contra hactive
    rw [activeOrder_of_isActive hmark ho (by simpa using hactive)] at h
    cases h
  have hnone : s.orders.active = none := by
    by_contra hsome
    obtain ⟨id, hid⟩ := Option.ne_none_iff_exists'.mp hsome
    obtain ⟨o, ho, rfl⟩ := hmark.2.2 id hid
    rw [activeOrder, hid, Option.bind_some, findOrder_of_mem hmark.1 ho] at h
    cases h
  refine ⟨hnone, hinactive, fun _ _ ho _ => ho, fun i o ho hactive => ?_, fun _ => rfl, rfl, rfl, .inl rfl, .refl s, rfl,
    fun _ => ⟨rfl, rfl⟩, fun hlit => ?_⟩
  · rw [hinactive o (List.mem_of_getElem? ho)] at hactive
    cases hactive
  · rw [hway] at hlit
    cases hlit

/-- An active order is cut short, its lighting ended first (R23). -/
theorem State.workEnds_cut {s : State} {o : Order} (hmark : s.markHolds) (h : s.activeOrder = some o) :
    s.WorkEnds ((s.dropOrderLighting true).finishOrder o.id (.cutShort .restart)) := by
  have hdrop := dropOrderLighting_lightDropped h
  generalize s.dropOrderLighting true = d at hdrop
  obtain ⟨-, hactive, hfound⟩ := activeOrder_eq_some h
  obtain ⟨p, hp, hpid⟩ := hdrop.order.findOrder (fun q => by split <;> rfl) hfound
  have hfinish := finishOrder_rewrites (hpid ▸ hp) (.cutShort .restart)
  rw [hpid] at hfinish
  have hrewrites := hdrop.order.trans hfinish (fun q => by split <;> rfl) fun _ => rfl
  have hnotices := finishOrder_notices hp (.cutShort .restart)
  have hnone : (d.finishOrder o.id (.cutShort .restart)).orders.active = none := by
    rw [finishOrder_active, hdrop.active, hactive, hp]
    exact if_pos ⟨rfl, rfl⟩
  refine ⟨hnone, hrewrites.inactive hmark h fun _ => rfl, fun _ _ ho => hrewrites.others hmark h ho,
    fun i q hq hisactive => ?_, fun hidle => ?_, ?_, ?_, ?_, hdrop.held.trans (finishOrder_heldFalls d _ _), ?_,
    fun hway => ?_, fun hway q hq => ?_⟩
  · obtain ⟨rfl, p, hp, hunheld⟩ := hrewrites.ended hmark h hq hisactive
    have hstate : p.unheld.state = _ := congrArg Order.state hunheld
    have hcancel : p.unheld.cancelRequested = _ := congrArg Order.cancelRequested hunheld
    have hexposed : p.unheld.exposed = _ := congrArg Order.exposed hunheld
    have hspoiled : p.unheld.spoiled = _ := congrArg Order.spoiled hunheld
    refine ⟨p, hp, hstate, hcancel, hexposed.trans ?_,
      hspoiled.trans ?_, by rw [hnotices]⟩
    · cases s.exposureUnderWay <;> rfl
    · cases s.exposureUnderWay <;> rfl
  · rw [hidle] at hactive
    cases hactive
  · rw [hnotices]
    exact hdrop.enabled
  · rw [hnotices]
    exact hdrop.lastRefusal
  · rw [hnotices]
    refine .inr ?_
    exact hdrop.pending.imp (congrArg (· ||| Notice.orderFinished.bit)) (congrArg (· ||| Notice.orderFinished.bit))
  · rw [finishOrder_accounts, hdrop.accounts]
  · rw [finishOrder_transport, finishOrder_rolls, hdrop.transport, hdrop.rolls, hway]
    exact ⟨rfl, rfl⟩
  · obtain rfl := Option.some.inj (h.symm.trans hq)
    rw [finishOrder_transport, finishOrder_rolls, hdrop.transport, hdrop.rolls, hway]
    exact ⟨rfl, rfl⟩

/-- What a Restart leaves of the orders and the film (R23, R196). -/
theorem State.cutShort_workEnds {s : State} (hsafe : s.lightSafe) : s.WorkEnds (s.cutShort .restart false true) := by
  obtain ⟨hmark, -, -, -, -, hframe, -⟩ := hsafe
  rw [cutShort]
  cases hactive : s.activeOrder with
  | none =>
    refine workEnds_self hmark hactive ?_
    unfold exposureUnderWay
    split
    next k time hpurpose =>
      obtain ⟨o, ho, -⟩ := hframe k time hpurpose
      rw [hactive] at ho
      cases ho
    next => rfl
  | some o => exact workEnds_cut hmark hactive

/-! ## The light -/

/-- The lighting of a purpose that a Restart ends (R196). -/
def MeteringUnit.restarted (m : MeteringUnit) : Purpose → MeteringUnit
  | .orderPass | .exposure _ _ => m.atRest
  | .testPass => (match m.test with
    | none => m.atRest
    | some t => m.recorded (.test .abandoned t.filmKind t.offset none none none))
  | .calibration => (match m.calibrating with
    | none => m.atRest
    | some r => m.recorded (.calibration .failed r.stages r.first r.references r.offsets))

/-- The orders and the metering after a Restart's first two blocks. -/
def State.darkened (s : State) : State := (s.cutShort .restart false true).restartMetering

theorem State.cutShort_of_forOrder {s : State} (hsafe : s.lightSafe) {p : Purpose} (hp : s.exposure.purpose = some p)
    (horder : p.forOrder = true) :
    (s.cutShort .restart false true).exposure = s.endLighting.exposure ∧
      (s.cutShort .restart false true).metering = s.metering.atRest := by
  obtain ⟨-, -, -, -, hpass, hframe, -⟩ := hsafe
  have hactive : ∃ o, s.activeOrder = some o := by
    cases p with
    | orderPass => exact (hpass hp).imp fun _ => And.left
    | exposure k t => exact (hframe k t hp).imp fun _ => And.left
    | _ => cases horder
  obtain ⟨o, ho⟩ := hactive
  rw [cutShort, ho]
  simp only [Bool.false_and, Bool.false_eq_true, if_false, finishOrder_exposure, finishOrder_metering]
  cases p with
  | orderPass => simp only [dropOrderLighting, hp]; exact ⟨rfl, rfl⟩
  | exposure k t => simp only [dropOrderLighting, hp, abortExposure, spoilFrame_exposure, spoilFrame_metering]; exact ⟨rfl, rfl⟩
  | _ => cases horder

theorem State.cutShort_of_not_forOrder {s : State} (hp : ∀ p, s.exposure.purpose = some p → p.forOrder = false) :
    (s.cutShort .restart false true).exposure = s.exposure ∧ (s.cutShort .restart false true).metering = s.metering := by
  have hsame : s.dropOrderLighting true = s := by
    unfold dropOrderLighting
    rcases hpurpose : s.exposure.purpose with _ | p
    · rfl
    · cases p with
      | testPass | calibration => rfl
      | orderPass | exposure => exact absurd (hp _ hpurpose) (by simp [Purpose.forOrder])
  rw [cutShort, hsame]
  cases s.activeOrder with
  | none => exact ⟨rfl, rfl⟩
  | some o =>
    simp only [Bool.false_and, Bool.false_eq_true, if_false]
    exact ⟨s.finishOrder_exposure _ _, s.finishOrder_metering _ _⟩

theorem State.restartMetering_records (s : State) : s.restartMetering =
    { s with exposure := s.restartMetering.exposure, metering := s.restartMetering.metering } := by
  unfold restartMetering abandonTest abandonCalibration
  rcases s.exposure.purpose with _ | _ | _ | _ | _
  case some.testPass =>
    dsimp only
    split <;> rfl
  case some.calibration =>
    dsimp only
    split <;> rfl
  all_goals rfl

/-- A lighting is over, with the record of its purpose (R75, R77, R196). -/
theorem State.darkened_of_some {s : State} (hsafe : s.lightSafe) {p : Purpose} (hp : s.exposure.purpose = some p) :
    s.darkened.exposure = s.endLighting.exposure ∧ s.darkened.metering = s.metering.restarted p := by
  by_cases horder : p.forOrder = true
  · obtain ⟨hexposure, hmetering⟩ := cutShort_of_forOrder hsafe hp horder
    have hover : s.darkened = s.cutShort .restart false true := by
      rw [darkened, restartMetering, hexposure]
      rfl
    rw [hover, hexposure, hmetering]
    cases p with
    | orderPass | exposure => exact ⟨rfl, rfl⟩
    | testPass | calibration => cases horder
  · obtain ⟨hexposure, hmetering⟩ := cutShort_of_not_forOrder (s := s) fun q hq => by
      rw [Option.some.inj (hq.symm.trans hp)]
      exact Bool.eq_false_iff.mpr horder
    rw [darkened]
    generalize s.cutShort .restart false true = u at *
    have hdark : u.endLighting.exposure = s.endLighting.exposure := by
      simp only [endLighting, hexposure, withExposure_exposure]
    have hkept : u.endLighting.metering = s.metering := hmetering
    cases p with
    | orderPass | exposure => exact absurd rfl horder
    | testPass =>
      have htest : u.restartMetering = u.abandonTest false := by rw [restartMetering, hexposure, hp]
      rw [htest, abandonTest, MeteringUnit.restarted]
      rw [hkept]
      cases s.metering.test with
      | none => exact ⟨hdark, congrArg MeteringUnit.atRest hkept⟩
      | some m => exact ⟨hdark, congrArg (MeteringUnit.recorded · _) hkept⟩
    | calibration =>
      have hrun : u.restartMetering = u.abandonCalibration false := by rw [restartMetering, hexposure, hp]
      rw [hrun, abandonCalibration, MeteringUnit.restarted]
      rw [hkept]
      cases s.metering.calibrating with
      | none => exact ⟨hdark, congrArg MeteringUnit.atRest hkept⟩
      | some r => exact ⟨hdark, congrArg (MeteringUnit.recorded · _) hkept⟩

theorem State.darkened_of_none {s : State} (hp : s.exposure.purpose = none) :
    s.darkened.exposure = s.exposure ∧ s.darkened.metering = s.metering := by
  obtain ⟨hexposure, hmetering⟩ := cutShort_of_not_forOrder (s := s) fun q hq => by
    rw [hp] at hq
    cases hq
  have hover : s.darkened = s.cutShort .restart false true := by rw [darkened, restartMetering, hexposure, hp]
  rw [hover]
  exact ⟨hexposure, hmetering⟩

/-! ## The printer -/

/-- The printer as its lines give it, with the head entry's label begun again (R196). -/
theorem State.restartPrinter_eq (s : State) : s.restartPrinter = s.withLabels
    (if s.labels.faultHigh = false then
      { s.labels with printer := .faulted .faultLine, wait := 0, dataLines := 0, strobed := false }
    else if s.labels.stockHigh = false then
      { s.labels with printer := .stockOut, wait := 0, dataLines := 0, strobed := false }
    else match s.labels.queue with
      | [] => { s.labels with printer := .idle, wait := 0, dataLines := 0, strobed := false }
      | e :: _ => s.labels.beginLabel (s.composeLabel e)) := by
  cases hfault : s.labels.faultHigh with
  | false => simp [restartPrinter, LabelUnit.fromLines, hfault, beginPrinting, LabelUnit.enter]
  | true =>
    cases hstock : s.labels.stockHigh with
    | false => simp [restartPrinter, LabelUnit.fromLines, hfault, hstock, beginPrinting, LabelUnit.enter]
    | true =>
      have hidle : s.restartPrinter = s.printerIdle := by simp [restartPrinter, LabelUnit.fromLines, hfault, hstock, printerIdle]
      rw [hidle]
      cases hqueue : s.labels.queue with
      | nil => exact printerIdle_of_nil hqueue
      | cons e rest => exact printerIdle_of_cons hqueue

end Sys2Proof.Machine
end


section
/-! PROOFS. A Restart that takes effect (R196): the blocks one after the other. -/

namespace Sys2Proof.Machine

/-- The notices of a finish and of the advance past a spoiled frame. -/
theorem eq_of_hasNotice_restart {set : NoticeSet} (h : set = 0 ∨ set = 0 ||| Notice.orderFinished.bit ∨
      set = 0 ||| Notice.rollEnd.bit ||| Notice.orderFinished.bit) {n : Notice} (hn : hasNotice set n = true) :
    n = .orderFinished ∨ n = .rollEnd := by
  revert hn
  rcases h with rfl | rfl | rfl <;> cases n <;> decide

/-- The stand as its blocks see a Restart: the pending set empty (R196). -/
def State.restarting (s : State) (port : LinePort) : State :=
  (s.withLine port).withNotices { s.notices with pending := 0 }

theorem State.restartBlocks_eq (s : State) (port : LinePort) :
    (s.withLine port).restartBlocks = (s.restarting port).darkened.restartPrinter := rfl

/-- A lamp that settles or is lit has a purpose (R63). -/
theorem ExposureUnit.exists_purpose {e : ExposureUnit} (h : e.drives) {k : Nat} (hlamp : e.lamp = .settling k ∨ e.lamp = .lit k) :
    ∃ p, e.purpose = some p := by
  unfold drives at h
  split at h
  · rw [h.1] at hlamp
    simp at hlamp
  · exact Option.isSome_iff_exists.mp h.2.2.2
  · obtain ⟨-, -, -, hp | hp | hp⟩ := h <;> exact ⟨_, hp⟩
  · obtain ⟨-, -, -, k, t, hp⟩ := h
    exact ⟨_, hp⟩

theorem State.WorkEnds.congr {s t u : State} (h : s.WorkEnds t) (horders : u.orders = t.orders)
    (hnotices : u.notices = t.notices) (haccounts : u.accounts = t.accounts) (htransport : u.transport = t.transport)
    (hrolls : u.rolls = t.rolls) : s.WorkEnds u := by
  have hheld : s.HeldFalls u := fun n => by
    rw [show u.findAccount n = t.findAccount n by rw [findAccount, haccounts]; rfl]
    exact h.held n
  obtain ⟨hactive, hinactive, hothers, hended, hlast, henabled, hrefusal, hpending, -, hslots, hfilm, hspoiled⟩ := h
  rw [← horders] at hactive hinactive hothers
  rw [← hnotices] at hlast henabled hrefusal hpending
  rw [← haccounts] at hslots
  rw [← htransport, ← hrolls] at hfilm
  refine ⟨hactive, hinactive, hothers, ?_, hlast, henabled, hrefusal, hpending, hheld, hslots, hfilm, ?_⟩
  · rw [horders, hnotices]
    exact hended
  · rw [htransport, hrolls]
    exact hspoiled

/-- The stand after a Restart's blocks. -/
def State.restarted (s : State) : State := s.darkened.restartPrinter

theorem State.restartPrinter_records (s : State) : s.restartPrinter = { s with labels := s.restartPrinter.labels } := by
  rw [restartPrinter_eq]
  rfl

theorem State.restarted_records (s : State) : s.restarted =
    { s.cutShort .restart false true with
      exposure := s.darkened.exposure, metering := s.darkened.metering, labels := s.restarted.labels } := by
  have hdark : s.darkened = _ := (s.cutShort .restart false true).restartMetering_records
  exact s.darkened.restartPrinter_records.trans
    (congrArg (fun t : State => { t with labels := s.darkened.restartPrinter.labels }) hdark)

theorem State.restarted_labels (s : State) : s.restarted.labels =
    if s.labels.faultHigh = false then
      { s.labels with printer := .faulted .faultLine, wait := 0, dataLines := 0, strobed := false }
    else if s.labels.stockHigh = false then
      { s.labels with printer := .stockOut, wait := 0, dataLines := 0, strobed := false }
    else match s.labels.queue with
      | [] => { s.labels with printer := .idle, wait := 0, dataLines := 0, strobed := false }
      | e :: _ => s.labels.beginLabel (s.restarted.composeLabel e) := by
  have hlabels : s.darkened.labels = s.labels := by
    rw [darkened, restartMetering_records]
    exact s.cutShort_labels _ _ _
  have hmark : s.darkened.labels.mark = s.restarted.labels.mark := by
    rw [restarted, restartPrinter, beginPrinting]
    split
    · rw [withLabels_labels, LabelUnit.beginLabel_mark]
      rfl
    · rfl
  have hcompose (e : LabelEntry) : s.darkened.composeLabel e = s.restarted.composeLabel e := by
    refine composeLabel_congr _ _ e hmark ?_ ?_ <;> rw [restarted, restartPrinter_records]
  have hprinter := congrArg State.labels s.darkened.restartPrinter_eq
  rw [hlabels] at hprinter
  simp only [hcompose] at hprinter
  exact hprinter

/-- Settles O18: the orders, the light and the printer, from what each block of a Restart does. -/
theorem restartEndsTheWork : Obligations.RestartEndsTheWork := by
  intro s c port hsafe hlistening hcommand
  obtain ⟨-, hdrives, -⟩ := id hsafe
  have hopen := (s.listening_iff).mpr hlistening
  have hexec : exec c s = .next (s.restarting port).restarted := by
    obtain ⟨rfl, rfl⟩ | ⟨rfl, ⟨cs, hsending⟩, ⟨body, hservice⟩, rfl⟩ := hcommand
    · have hexec : exec .broadcastRestart s = .next (if s.listening then
          (s.withLine { s.line with assembly := .unaddressed, gap := 0, held := none }).restartBlocks else s) := rfl
      rw [hexec, if_pos hopen, State.restartBlocks_eq]
      rfl
    · have hexec : exec .replyEnd s = .next (if s.listening then s.endReply else s) := rfl
      have hend : s.endReply = s.takeRestart := by simp [State.endReply, hsending, hservice, kindRestart]
      rw [hexec, if_pos hopen, hend, State.takeRestart, State.restartBlocks_eq]
      rfl
  have hsafe' : (s.restarting port).lightSafe := hsafe
  have hrecords := (s.restarting port).restarted_records
  have hends : (s.restarting port).WorkEnds (s.restarting port).restarted :=
    (State.cutShort_workEnds hsafe').congr (by rw [hrecords]) (by rw [hrecords]) (by rw [hrecords]) (by rw [hrecords])
      (by rw [hrecords])
  have hids : (s.restarting port).restarted.orders.table.map Order.id = s.orders.table.map Order.id := by
    rw [hrecords]
    exact (s.restarting port).cutShort_ids .restart false true
  refine ⟨_, hexec, ?_, hends.active, hends.inactive, hids, hends.others, hends.ended, hends.lastFinished, hends.film,
    fun hway o ho => ?_, fun hnone => ?_, fun k hlamp => ?_, fun p hp => ?_, fun n hn => ?_, hends.enabled,
    hends.lastRefusal, ?_, fun n a ha => ?_, ?_, ?_, hends.accounts, ?_, ?_, ?_, ?_⟩
  · rw [hrecords]
    exact State.cutShort_line _ _ _ _
  · obtain ⟨hrolls, htransport⟩ := hends.spoiled hway o ho
    rw [State.recordFrame_eq] at hrolls
    exact ⟨hrolls, htransport⟩
  · rw [hrecords]
    exact State.darkened_of_none (s := s.restarting port) hnone
  · obtain ⟨p, hp⟩ := ExposureUnit.exists_purpose hdrives hlamp
    have hstep : (s.restarting port).exposure.lamp.step = some k := by
      rcases hlamp with h | h <;> exact congrArg Lamp.step h
    rw [hrecords]
    refine (State.darkened_of_some hsafe' hp).1.trans ?_
    rw [State.endLighting_eq hstep]
    rfl
  · rw [hrecords]
    refine (State.darkened_of_some hsafe' hp).2.trans ?_
    cases p <;> rfl
  · exact eq_of_hasNotice_restart hends.pending hn
  · exact State.restarted_labels _
  · obtain ⟨k, hk⟩ := hends.held n
    have hbefore : (s.restarting port).findAccount n = some a := ha
    rw [hbefore, Option.map_some] at hk
    exact ⟨_, hk, rfl, Nat.sub_le _ _⟩
  · rw [hrecords]
    exact State.cutShort_films _ _ _ _
  · rw [hrecords]
    exact State.cutShort_calibration _ _ _ _
  · rw [hrecords]
    exact State.cutShort_store _ _ _ _
  · rw [hrecords]
    exact State.cutShort_power _ _ _ _
  · rw [hrecords]
    exact State.cutShort_panel _ _ _ _
  · rw [hrecords]
    exact State.cutShort_pending _ _ _ _

end Sys2Proof.Machine
end
